-- ==== Sys2Proof/Word.lean ====
section
/-! DEFINITION. The word types of the block (00_scope R9: every value is unsigned). -/

namespace Sys2Proof

/-- A register, a command word or a bus word: 32 bits (R8, R80). -/
abbrev Word := BitVec 32

/-- A count, a tick length or a repeat count: 16 bits (R6: P_CNT_W, P_TICK_W, P_REP_W). -/
abbrev Half := BitVec 16

/-- One byte lane of a bus word (R70). -/
abbrev Byte := BitVec 8

/-- An output level: HIGH = 1 is `true`, LOW = 0 is `false` (R11). -/
abbrev Level := Bool

end Sys2Proof
end

