-- ==== Sys2Proof/Syntax.lean ====
section
/-! DEFINITION. The eight commands of the block, one constructor per row of spec/opcode_table.json. -/

namespace Sys2Proof

/-- A command of the opcode map (30_encoding R81). The operand types are exactly the operand fields of R82 and R83, so a
term of this type has no operand that its word could not hold. -/
inductive Instr where
  /-- CONFIGURE (R100). -/
  | configure
  /-- SET_REPEAT N (R101): N is bits 15:0 of the word. -/
  | setrepeat (n : BitVec 16)
  /-- SEND L (R120): L is bits 5:0 of the word; 33 to 63 decode and are refused by SEND itself (R83). -/
  | send (len : BitVec 6)
  /-- ENTER_LOW_POWER (R160). -/
  | lowpower
  /-- ARM_WAKE (R161). -/
  | armwake
  /-- SLEEP (R162). -/
  | sleep
  /-- HALT (R163). -/
  | halt
  /-- WAKE (R164). -/
  | wake
  deriving DecidableEq, Repr, Inhabited

end Sys2Proof
end

