-- ==== Sys2Proof/WellFormed.lean ====
section
/-! DEFINITION. What an operand must satisfy to stand in a command word or a host operation (30_encoding R83, R87, R88). -/

namespace Sys2Proof

/-- `setrepeat N` assembles for N in 0 to 65535 (R87). -/
def fitsRepeat (n : Nat) : Bool := n ≤ 65535

/-- `send L` assembles for L in 0 to 63; 33 to 63 assemble and fault (R83, R87). -/
def fitsLength (n : Nat) : Bool := n ≤ 63

/-- An immediate is at most 0xFFFFFFFF (R87). -/
def fitsWord (n : Nat) : Bool := n ≤ 0xFFFFFFFF

/-- `timing(h, l)` takes counts in 0 to 65535 (R88). -/
def fitsCount (n : Nat) : Bool := n ≤ 65535

/-- The polarity argument of `proto` is 0 or 1 (R89). -/
def fitsFlag (n : Nat) : Bool := n ≤ 1

/-- A command whose operands fit their fields. The types of `Instr` already hold the widths of R82, so each check holds of
every term; the checks that can fail are those on the numbers an assembler line holds, above. -/
def Instr.WellFormed : Instr → Bool
  | .configure => true
  | .setrepeat n => fitsRepeat n.toNat
  | .send len => fitsLength len.toNat
  | .lowpower => true
  | .armwake => true
  | .sleep => true
  | .halt => true
  | .wake => true

end Sys2Proof
end

