-- ==== Sys2Proof/Decode.lean ====
section
/-! DEFINITION. Decoding of a command word (30_encoding R80 to R86, R91), total on every word and every byte string, and the
encoder written from the same tables. -/

namespace Sys2Proof

/-- What a command word decodes to (R86): one of the eight commands with its operand, or one of the two errors by name. -/
inductive Decoded where
  | cmd (i : Instr)
  /-- OP names no command (R84 item 1). -/
  | illegalOp
  /-- OP names a command and a reserved bit of its format is 1 (R84 item 2). -/
  | rsvdBits
  deriving DecidableEq, Repr

/-- The field OP, bits 31:28 (R80). -/
def opField (w : Word) : BitVec 4 := w.extractLsb' 28 4

/-- A command is decoded only where the reserved bits of its format are clear (R82, R84 item 2). -/
def whenClear {k : Nat} (reserved : BitVec k) (i : Instr) : Decoded :=
  if reserved = 0 then .cmd i else .rsvdBits

/-- Format F0: bits 27:0 are reserved (R82). -/
def formatF0 (w : Word) (i : Instr) : Decoded := whenClear (w.extractLsb' 0 28) i

/-- The case distinction of `Command(w)` (R91). ILLEGAL_OP comes before RSVD_BITS (R84 item 4). -/
def decode (w : Word) : Decoded :=
  match (opField w).toNat with
  | 0x1 => formatF0 w .configure
  | 0x2 => whenClear (w.extractLsb' 16 12) (.setrepeat (w.extractLsb' 0 16))
  | 0x3 => whenClear (w.extractLsb' 6 22) (.send (w.extractLsb' 0 6))
  | 0x8 => formatF0 w .lowpower
  | 0x9 => formatF0 w .armwake
  | 0xA => formatF0 w .sleep
  | 0xB => formatF0 w .halt
  | 0xC => formatF0 w .wake
  | _ => .illegalOp

/-- A bus word carried as four bytes: byte k holds bits 8k+7:8k (R70, little-endian; A14). -/
def bytesOfWord (w : Word) : List Byte :=
  [w.extractLsb' 0 8, w.extractLsb' 8 8, w.extractLsb' 16 8, w.extractLsb' 24 8]

/-- The word that four bytes carry (R70); a command is exactly one 32-bit word (R80, R85), so any other count carries none. -/
def wordOfBytes : List Byte → Option Word
  | [b0, b1, b2, b3] => some (b3 ++ b2 ++ b1 ++ b0)
  | _ => none

/-- The instruction of a decoded word, where there is one. -/
def Decoded.instr? : Decoded → Option Instr
  | .cmd i => some i
  | .illegalOp => none
  | .rsvdBits => none

/-- The decoder on bytes: four bytes are one command word, anything else is none (R85). -/
def decodeBytes (bs : List Byte) : Option Instr := (wordOfBytes bs).bind fun w => (decode w).instr?

/-- The word a table row of `nbits` bits describes: bits at and above `nbits` are 0. -/
def tableWord (nbits w : Nat) : Word := BitVec.ofNat 32 (w % 2 ^ nbits)

/-- The instruction the decoder reads from the word `w` of the opcode table, laid out in bytes as R70 says. A row wider than
the one instruction length of the block (R85) is no instruction. -/
def decodeTableWord (nbits w : Nat) : Option Instr :=
  if nbits ≤ 32 then decodeBytes (bytesOfWord (tableWord nbits w)) else none

/-- The opcode of a command (R81). -/
def Instr.opcode : Instr → BitVec 4
  | .configure => 0x1
  | .setrepeat _ => 0x2
  | .send _ => 0x3
  | .lowpower => 0x8
  | .armwake => 0x9
  | .sleep => 0xA
  | .halt => 0xB
  | .wake => 0xC

/-- The column `match` of R82. -/
def Instr.matchWord : Instr → Word
  | .configure => 0x10000000
  | .setrepeat _ => 0x20000000
  | .send _ => 0x30000000
  | .lowpower => 0x80000000
  | .armwake => 0x90000000
  | .sleep => 0xA0000000
  | .halt => 0xB0000000
  | .wake => 0xC0000000

/-- The column `mask` of R82. -/
def Instr.maskWord : Instr → Word
  | .configure => 0xFFFFFFFF
  | .setrepeat _ => 0xFFFF0000
  | .send _ => 0xFFFFFFC0
  | .lowpower => 0xFFFFFFFF
  | .armwake => 0xFFFFFFFF
  | .sleep => 0xFFFFFFFF
  | .halt => 0xFFFFFFFF
  | .wake => 0xFFFFFFFF

/-- The operand bits of a command in its word (R82): N in bits 15:0, L in bits 5:0; every other bit of ARG is 0. -/
def Instr.operandWord : Instr → Word
  | .configure => 0
  | .setrepeat n => n.setWidth 32
  | .send len => len.setWidth 32
  | .lowpower => 0
  | .armwake => 0
  | .sleep => 0
  | .halt => 0
  | .wake => 0

/-- The command word of a command, as R87 writes it: `0x20000000 | N`, `0x30000000 | L`. -/
def encode (i : Instr) : Word := i.matchWord ||| i.operandWord

end Sys2Proof
end

