-- ==== Sys2Proof/Config.lean ====
section
/-! DEFINITION. What an implementation fixes (00_scope R6), the small types it needs, and the free values of the model. -/

namespace Sys2Proof

/-- The agents of 00_scope R7. -/
inductive Agent where
  /-- The CPU's foreground code (20_memory R62 to R69). -/
  | host
  /-- The transmission sequencer (41_transmit R126 to R128). -/
  | engine
  /-- The periodic timer (60_exceptions R208). -/
  | tick
  /-- The wake input pin (60_exceptions R209). -/
  | edge
  /-- The watchdog (60_exceptions R219). -/
  | wdt
  deriving DecidableEq, Repr, Inhabited

/-- The values of P_END_LEVEL (R6, D15): the level the TRAIL step forces. -/
inductive EndLevel where
  | idle
  | low
  deriving DecidableEq, Repr, Inhabited

/-- A latched protocol: the active protocol of 10_state R33. -/
structure Protocol where
  tickUs : Half
  syncH : Half
  syncL : Half
  zeroH : Half
  zeroL : Half
  oneH : Half
  oneL : Half
  inv : Bool
  deriving DecidableEq, Repr, Inhabited

/-- The power configuration PWR of 10_state R42. -/
structure Pwr where
  adcEn : Bool
  acmpEn : Bool
  wdtEn : Bool
  pullupUnused : Bool
  uclkEn : Bool
  sleepDeep : Bool
  lpcfg : Bool
  deriving DecidableEq, Repr, Inhabited

/-- P_LEN_MAX = 32 (R6, D10). -/
abbrev Config.lenMax : Nat := 32

/-- P_WINDOW = 0x40 bytes (R6, D2). -/
abbrev Config.windowBytes : Nat := 0x40

/-- FREE VALUE (A2): the agent that steps next where `env.sched` names none. R7: any agent with an enabled step may be
scheduled at any point. Safe: a claim about a run holds for every schedule. -/
opaque Config.freeAgent : Nat → Agent

/-- FREE VALUE (A6): the draw of P_PWR_RESET at a reset (R42, R240); its LPCFG is not used. Safe: nothing constrains it. -/
opaque Config.freePwr : Nat → Pwr

/-- FREE VALUE (A7): the draw of the active protocol at a reset (R33, R240). Safe: nothing constrains it. -/
opaque Config.freeProtocol : Nat → Protocol

/-- FREE VALUE (A4): P_BASE is OPEN (R6, D2); this is its multiple of 0x40. Safe: nothing constrains it. -/
opaque Config.freeBaseBlock : Nat

/-- The base address of the register window after reset, a multiple of 0x40 (R6, R61). -/
def Config.base : Nat := Config.windowBytes * Config.freeBaseBlock

end Sys2Proof
end

