-- ==== Sys2Proof/Machine/HostOp.lean ====
section
/-! DEFINITION. The host's operations on the register window (20_memory R61 to R67) and the registers' offsets (10_state R23). -/

namespace Sys2Proof.Machine

/-- The registers of the window (R23). -/
inductive Reg where
  | cmd
  | status
  | err
  | tickUs
  | sync
  | zero
  | one
  | pflags
  | code
  | repeatCount
  deriving DecidableEq, Repr, Inhabited

/-- `off(REG)` (R23, R87). -/
def Reg.offset : Reg → BitVec 6
  | .cmd => 0x00
  | .status => 0x04
  | .err => 0x08
  | .tickUs => 0x0C
  | .sync => 0x10
  | .zero => 0x14
  | .one => 0x18
  | .pflags => 0x1C
  | .code => 0x20
  | .repeatCount => 0x24

/-- The register at an offset of the window; none where the offset is misaligned (R64) or unmapped (R65). -/
def Reg.ofOffset (off : BitVec 6) : Option Reg :=
  match off.toNat with
  | 0x00 => some .cmd
  | 0x04 => some .status
  | 0x08 => some .err
  | 0x0C => some .tickUs
  | 0x10 => some .sync
  | 0x14 => some .zero
  | 0x18 => some .one
  | 0x1C => some .pflags
  | 0x20 => some .code
  | 0x24 => some .repeatCount
  | _ => none

/-- The access widths that exist (R63): 1, 2 and 4 bytes; no wider access exists on the interface. -/
inductive Width where
  | byte
  | half
  | word
  deriving DecidableEq, Repr, Inhabited

/-- The address of a host access. `window off` is the address P_BASE + off, the form in which R62, R67 and R87 write it;
`bus addr` is an absolute host address, which R61 decodes (A4). -/
inductive HostAddr where
  | window (off : BitVec 6)
  | bus (addr : Nat)
  deriving DecidableEq, Repr, Inhabited

/-- One host operation is one bus access (R8, R62, R67). -/
inductive HostOp where
  | read (a : HostAddr) (n : Width)
  | write (a : HostAddr) (n : Width) (v : Word)
  deriving DecidableEq, Repr, Inhabited

/-- `rd REG`: a 4-byte read (R87). -/
def HostOp.rd (r : Reg) : HostOp := .read (.window r.offset) .word

/-- `wr REG, imm`: a 4-byte write (R87). -/
def HostOp.wr (r : Reg) (v : Word) : HostOp := .write (.window r.offset) .word v

/-- A 4-byte write to CMD: one command word (R24, R87). -/
def HostOp.cmd (w : Word) : HostOp := HostOp.wr .cmd w

end Sys2Proof.Machine
end

