-- ==== Sys2Proof/Machine/State.lean ====
section
/-! DEFINITION. The state of the machine as plain data (10_state R23 to R47), the reasons a step can stop, and reset. -/

namespace Sys2Proof.Machine

/-- The kind of an engine pin write (R47): ACT, IDL or TRAIL. -/
inductive Kind where
  | act
  | idl
  | trail
  deriving DecidableEq, Repr, Inhabited

/-- An element of SEQ (R37): ACT, IDL and TRAIL each wait for a tick and write the pin; DISARM does neither. -/
inductive Elem where
  | write (k : Kind)
  | disarm
  deriving DecidableEq, Repr, Inhabited

/-- A record of WAVE (R47). -/
structure WaveRec where
  send : Nat
  tick : Nat
  level : Level
  kind : Kind
  deriving DecidableEq, Repr, Inhabited

/-- The values ERR.CODE takes (60_exceptions R201); the codes 8 to 15 are never recorded and have no name here (A17). -/
inductive ErrCode where
  | noError
  | illegalOp
  | rsvdBits
  | badLength
  | notConfigured
  | degenerate
  | badTick
  | badAccess
  deriving DecidableEq, Repr, Inhabited

/-- The code of an error in ERR bits 3:0 (R201). -/
def ErrCode.bits : ErrCode → BitVec 4
  | .noError => 0
  | .illegalOp => 1
  | .rsvdBits => 2
  | .badLength => 3
  | .notConfigured => 4
  | .degenerate => 5
  | .badTick => 6
  | .badAccess => 7

/-- The ghost observation state (R47): the spec gives it to the model, and no hardware-visible effect reads it. -/
structure Ghost where
  tickNo : Nat
  lost : Nat
  sends : Nat
  wave : List WaveRec
  faultMark : Bool
  resets : Nat
  deriving DecidableEq, Repr, Inhabited

/-- The run's parameters and inputs (R6, R22). The spec calls them no state of the block; the model holds them because a step
takes a state alone (A1, A2, A4, A5, A8, A11). -/
structure Env where
  /-- P_BASE (R6). -/
  base : Nat
  /-- P_END_LEVEL (R6). -/
  endLevel : EndLevel
  /-- The finite host program (R22, R246). -/
  program : List HostOp
  /-- The host's operations still to come; the head is its next operation. -/
  todo : List HostOp
  /-- The values the host's reads returned since its program's start, oldest first (R62). -/
  reads : List Word
  /-- The schedule's next choices; past its end the choice is a free value (R7). -/
  sched : List Agent
  /-- The number of the next free value. -/
  drawNo : Nat
  deriving DecidableEq, Repr, Inhabited

/-- The whole machine. -/
structure State where
  /-- TICK_US.VAL (R27). -/
  tickUs : Half
  /-- SYNC (R28). -/
  sync : Word
  /-- ZERO (R28). -/
  zero : Word
  /-- ONE (R28). -/
  one : Word
  /-- PFLAGS.INV (R29). -/
  inv : Bool
  /-- CODE (R30). -/
  code : Word
  /-- REPEAT.N (R31). -/
  repeatN : Half
  /-- ERR.CODE (R26). -/
  err : ErrCode
  /-- The active protocol (R33). -/
  active : Protocol
  /-- CONFIGURED (R34). -/
  configured : Bool
  /-- ACT_LVL (R35). -/
  actLvl : Level
  /-- BUSY (R36). -/
  busy : Bool
  /-- SEQ (R37). -/
  seq : List Elem
  /-- TICK_ARMED (R39). -/
  tickArmed : Bool
  /-- TICK_FLAG (R40). -/
  tickFlag : Bool
  /-- DATA_OUT (R41). -/
  dataOut : Level
  /-- PWR (R42). -/
  pwr : Pwr
  /-- SE (R43). -/
  se : Bool
  /-- WAKE_IE (R44). -/
  wakeIe : Bool
  /-- HALTED (R45). -/
  halted : Bool
  /-- Ghost state (R47). -/
  ghost : Ghost
  /-- The run's parameters and inputs (R22). -/
  env : Env
  deriving DecidableEq, Repr, Inhabited

/-- The reasons a step stops with a fault. There is none: no operation of the block traps (R200), every error is recorded in
ERR and the machine goes on (R202), and a stuck agent is a state in which it has no step (R137, R167). -/
inductive Fault where
  deriving DecidableEq, Repr

/-- The reasons a step is refused. -/
inductive Refusal where
  /-- Raised by an arm of `exec` whose instruction has no meaning yet; no arm raises it. Safe. -/
  | notModelled (mnemonic : String)
  /-- Raised by a host access at an address outside the register window: R61 makes the host bus there no part of the block
  and has the model refuse the access (A9). Safe: the run stops where the hardware goes on. -/
  | outsideWindow (addr : Nat)
  deriving DecidableEq, Repr

/-- The ghost state at the start of a run (R47). -/
def Ghost.start : Ghost :=
  { tickNo := 0, lost := 0, sends := 0, wave := [], faultMark := false, resets := 0 }

/-- The run's parameters with nothing loaded: no host program, no schedule given (A1, A2), P_BASE free (A4), P_END_LEVEL at
the spec's default IDLE (A5), and draw 0 already used by the reset itself (A8). -/
def Env.start : Env :=
  { base := Config.base, endLevel := .idle, program := [], todo := [], reads := [], sched := [], drawNo := 1 }

/-- The POWER_ON reset state (70_reset R240, RS-1). PWR but LPCFG and the active protocol are draws (A6, A7). -/
def State.reset : State :=
  { tickUs := 0, sync := 0, zero := 0, one := 0, inv := false, code := 0, repeatN := 1, err := .noError
    active := Config.freeProtocol 0, configured := false, actLvl := true
    busy := false, seq := [], tickArmed := false, tickFlag := false, dataOut := false
    pwr := { Config.freePwr 0 with lpcfg := false }
    se := false, wakeIe := false, halted := false
    ghost := Ghost.start, env := Env.start }

end Sys2Proof.Machine
end

