-- ==== Sys2Proof/Machine/Flags.lean ====
section
/-! DEFINITION. The computed status: PSTATE (10_state R46), ERRF and the STATUS word (R25, 20_memory R62), IDLE_LVL (R35). -/

namespace Sys2Proof.Machine

/-- IDLE_LVL = not ACT_LVL: computed, not stored (R35). -/
def State.idleLvl (s : State) : Level := !s.actLvl

/-- ERRF: an error is recorded (R25). -/
def State.errf (s : State) : Bool := s.err != .noError

/-- PSTATE (R46): 2 SLEEPING, 3 WOKEN, 1 POWERED_DOWN, 0 ACTIVE. -/
def State.pstate (s : State) : BitVec 2 :=
  if s.halted then 2
  else if s.se then 3
  else if s.pwr.lpcfg && s.wakeIe && !s.tickArmed then 1
  else 0

/-- A one-bit field of STATUS at bit `k`. -/
def statusBit (k : Nat) (b : Bool) : Word := (BitVec.ofBool b).setWidth 32 <<< k

/-- The STATUS word (R25, R62), field by field; bits 31:11 read 0. -/
def State.statusWord (s : State) : Word :=
  statusBit 0 s.busy ||| statusBit 1 s.tickArmed ||| statusBit 2 s.tickFlag ||| statusBit 3 s.configured
    ||| statusBit 4 s.actLvl ||| statusBit 5 s.dataOut ||| statusBit 6 s.se ||| statusBit 7 s.wakeIe
    ||| (s.pstate.setWidth 32 <<< 8) ||| statusBit 10 s.errf

end Sys2Proof.Machine
end

