-- ==== Sys2Proof/Machine/Operands.lean ====
section
/-! DEFINITION. The operands of CONFIGURE and SEND: the timing fields of a register word (10_state R28) and the pulse program
(41_transmit R121 to R125, R135). -/

namespace Sys2Proof.Machine

/-- `highTicks` of a PulseTiming word: bits 15:0 (R28). -/
def timingHigh (w : Word) : Half := w.extractLsb' 0 16

/-- `lowTicks` of a PulseTiming word: bits 31:16 (R28). -/
def timingLow (w : Word) : Half := w.extractLsb' 16 16

/-- `timing(h, l)`: the word {l, h} (R83, R88). -/
def timingWord (h l : Half) : Word := l ++ h

/-- The staged protocol as CONFIGURE latches it (R100). -/
def State.staged (s : State) : Protocol :=
  { tickUs := s.tickUs
    syncH := timingHigh s.sync, syncL := timingLow s.sync
    zeroH := timingHigh s.zero, zeroL := timingLow s.zero
    oneH := timingHigh s.one, oneL := timingLow s.one
    inv := s.inv }

/-- The timing of the sync pulse (R121). -/
def syncTiming (p : Protocol) : Half × Half := (p.syncH, p.syncL)

/-- The timing of a transmitted bit (R122): `oneTiming` if it is set, else `zeroTiming`. -/
def bitTiming (p : Protocol) (b : Bool) : Half × Half :=
  if b then (p.oneH, p.oneL) else (p.zeroH, p.zeroL)

/-- The bits of a code at positions L-1 down to 0, most significant first (R123). -/
def codeBits (c : Word) : Nat → List Bool
  | 0 => []
  | l + 1 => c.getLsbD l :: codeBits c l

/-- The units of one timing (R124): h times ACT, then l times IDL. -/
def units (t : Half × Half) : List Elem :=
  List.replicate t.1.toNat (.write .act) ++ List.replicate t.2.toNat (.write .idl)

/-- One frame (R121): the pulses of the bits, most significant first, then one sync pulse. -/
def frame (p : Protocol) (c : Word) (l : Nat) : List Elem :=
  (codeBits c l).flatMap (fun b => units (bitTiming p b)) ++ units (syncTiming p)

/-- The pulse program of a SEND (R121): n frames, one trailing tick, one disarm. -/
def program (p : Protocol) (c : Word) (l n : Nat) : List Elem :=
  (List.replicate n (frame p c l)).flatten ++ [.write .trail, .disarm]

/-- A timing that must never be transmitted (R28, R125): both counts 0. -/
def emptyTiming (t : Half × Half) : Bool := t.1 == 0#16 && t.2 == 0#16

/-- Would the transmission use a degenerate timing (R125)? -/
def isDegenerate (p : Protocol) (c : Word) (l n : Nat) : Bool :=
  decide (1 ≤ n) &&
    (emptyTiming (syncTiming p) || (codeBits c l).any fun b => emptyTiming (bitTiming p b))

/-- The ticks of one timing. -/
def timingTicks (t : Half × Half) : Nat := t.1.toNat + t.2.toNat

/-- F(c, L): the ticks of one frame, as the sum over its bits and its sync pulse (R135). -/
def frameTicks (p : Protocol) (c : Word) (l : Nat) : Nat :=
  ((codeBits c l).map fun b => timingTicks (bitTiming p b)).sum + timingTicks (syncTiming p)

/-- The consumes of one SEND: n frames and the TRAIL (R135). -/
def sendConsumes (p : Protocol) (c : Word) (l n : Nat) : Nat := n * frameTicks p c l + 1

end Sys2Proof.Machine
end

