-- ==== Sys2Proof/Machine/Ops.lean ====
section
/-! DEFINITION. The operations the meanings share: recording an error (60_exceptions R202, R204), the reset event (70_reset
R240), the register file behind the window (20_memory R61 to R68), the schedule, and the host's progress. -/

namespace Sys2Proof.Machine

/-- `raise Err(code)` (R202): the first error wins and is sticky; FAULT becomes true when ERR.CODE is written (R204). The
caller ends its command or access with no other effect. -/
def raiseErr (c : ErrCode) (s : State) : State :=
  { s with
    err := if s.err = .noError then c else s.err
    ghost.faultMark := s.ghost.faultMark || decide (s.err = .noError) }

/-- RESET(WDT) (R240): every element of R24 to R46 at its reset value, PWR and the active protocol drawn afresh (A6, A7), the
host back at its program's entry with no held write, TICK_NO 0 and RESETS one more; LOST, SENDS, WAVE and FAULT are kept. -/
def wdtReset (s : State) : State :=
  { tickUs := 0, sync := 0, zero := 0, one := 0, inv := false, code := 0, repeatN := 1, err := .noError
    active := Config.freeProtocol s.env.drawNo, configured := false, actLvl := true
    busy := false, seq := [], tickArmed := false, tickFlag := false, dataOut := false
    pwr := { Config.freePwr s.env.drawNo with lpcfg := false }
    se := false, wakeIe := false, halted := false
    ghost := { s.ghost with tickNo := 0, resets := s.ghost.resets + 1 }
    env := { s.env with todo := s.env.program, reads := [], drawNo := s.env.drawNo + 1 } }

/-- The agent that steps next: the schedule's next choice, and past its end a free value (R7; A2). -/
def State.nextAgent (s : State) : Agent :=
  match s.env.sched with
  | [] => Config.freeAgent s.env.drawNo
  | a :: _ => a

/-- The state once that choice is made: it uses up one entry of the schedule, or one free value. -/
def State.afterPick (s : State) : State :=
  match s.env.sched with
  | [] => { s with env.drawNo := s.env.drawNo + 1 }
  | _ :: rest => { s with env.sched := rest }

/-- The offset in the window of an absolute host address (R61, R66); none outside the window. -/
def windowOffset (base addr : Nat) : Option (BitVec 6) :=
  if base ≤ addr ∧ addr < base + Config.windowBytes then some (BitVec.ofNat 6 (addr - base)) else none

/-- The offset a host address names (R61). -/
def HostAddr.offset? (a : HostAddr) (base : Nat) : Option (BitVec 6) :=
  match a with
  | .window off => some off
  | .bus addr => windowOffset base addr

/-- The host bus address of a host address (R61, R62: P_BASE + off). -/
def HostAddr.busAddr (a : HostAddr) (base : Nat) : Nat :=
  match a with
  | .window off => base + off.toNat
  | .bus addr => addr

/-- The register an access reaches: a 4-byte access (R63) at an aligned (R64), mapped (R65) offset. None is BAD_ACCESS. -/
def admitted (off : BitVec 6) (n : Width) : Option Reg :=
  if n = .word then Reg.ofOffset off else none

/-- The word a register reads as (R62). -/
def readReg (r : Reg) (s : State) : Word :=
  match r with
  | .cmd => 0
  | .status => s.statusWord
  | .err => s.err.bits.setWidth 32
  | .tickUs => s.tickUs.setWidth 32
  | .sync => s.sync
  | .zero => s.zero
  | .one => s.one
  | .pflags => (BitVec.ofBool s.inv).setWidth 32
  | .code => s.code
  | .repeatCount => s.repeatN.setWidth 32

/-- A write to a register that is not a command (R67): staged registers store their fields, reserved bits are ignored (R32),
read-only registers ignore the write (R68). CMD holds nothing (R24); its write is a command (Machine/Host.lean). -/
def writeReg (r : Reg) (v : Word) (s : State) : State :=
  match r with
  | .cmd => s
  | .status => s
  | .err => s
  | .tickUs => { s with tickUs := v.extractLsb' 0 16 }
  | .sync => { s with sync := v }
  | .zero => { s with zero := v }
  | .one => { s with one := v }
  | .pflags => { s with inv := v.getLsbD 0 }
  | .code => { s with code := v }
  | .repeatCount => s

/-- `HostRead(off, n)` (R62): the value, and the state after; a bad access reads 0 and records BAD_ACCESS. -/
def hostRead (off : BitVec 6) (n : Width) (s : State) : Word × State :=
  match admitted off n with
  | some r => (readReg r s, s)
  | none => (0, raiseErr .badAccess s)

/-- The host goes on to the operations `rest` (R72: each operation is complete before the next). -/
def State.advance (s : State) (rest : List HostOp) : State := { s with env.todo := rest }

/-- The host keeps the value a read returned (R87: it is the line's result; A11). -/
def State.recordRead (s : State) (v : Word) : State := { s with env.reads := s.env.reads ++ [v] }

/-- A host program and the first choices of a schedule loaded from outside the machine (R22, R246; A1, A2). -/
def State.load (s : State) (prog : List HostOp) (sched : List Agent) : State :=
  { s with env.program := prog, env.todo := prog, env.sched := sched }

end Sys2Proof.Machine
end

