-- ==== Sys2Proof/Machine/Configure.lean ====
section
/-! DEFINITION. The configuration commands (40_config): CONFIGURE and SET_REPEAT. -/

namespace Sys2Proof.Machine

/-- The latching half of CONFIGURE (R100): the staged protocol becomes the active one. -/
def latchProtocol (s : State) : State :=
  { s with active := s.staged, actLvl := !s.inv, configured := true }

/-- CONFIGURE (R100): BAD_TICK where the staged tick length is 0, else latch. The pin is not touched. -/
def execConfigure (s : State) : Host.Outcome State Fault Refusal :=
  if s.tickUs = 0#16 then .next (raiseErr .badTick s) else .next (latchProtocol s)

/-- SET_REPEAT N (R101): every N is accepted. -/
def execSetrepeat (n : BitVec 16) (s : State) : Host.Outcome State Fault Refusal :=
  .next { s with repeatN := n }

end Sys2Proof.Machine
end

