-- ==== Sys2Proof/Machine/Power.lean ====
section
/-! DEFINITION. The Power State Controller's commands (42_power). -/

namespace Sys2Proof.Machine

/-- PWR after ENTER_LOW_POWER (R42, R160). -/
def lowPowerPwr : Pwr :=
  { adcEn := false, acmpEn := false, wdtEn := false, pullupUnused := true, uclkEn := false, sleepDeep := true, lpcfg := true }

/-- HALT_INSN (R163): the host halts only while SE = 1. -/
def haltInsn (s : State) : State := { s with halted := s.halted || s.se }

/-- ENTER_LOW_POWER (R160): PWR and nothing else. -/
def execLowpower (s : State) : Host.Outcome State Fault Refusal := .next { s with pwr := lowPowerPwr }

/-- ARM_WAKE (R161). -/
def execArmwake (s : State) : Host.Outcome State Fault Refusal := .next { s with wakeIe := true }

/-- SLEEP (R162): the latch is set and the halt instruction executed, in one step. -/
def execSleep (s : State) : Host.Outcome State Fault Refusal := .next (haltInsn { s with se := true })

/-- HALT (R163): the halt instruction alone. -/
def execHalt (s : State) : Host.Outcome State Fault Refusal := .next (haltInsn s)

/-- WAKE (R164): the sleep-enable latch is cleared. -/
def execWake (s : State) : Host.Outcome State Fault Refusal := .next { s with se := false }

end Sys2Proof.Machine
end

