-- ==== Sys2Proof/Machine/Transmit.lean ====
section
/-! DEFINITION. SEND and the transmission engine (41_transmit). -/

namespace Sys2Proof.Machine

/-- The start of an accepted SEND (R120): SEQ, BUSY, TICK_ARMED and the ghost counters. TICK_FLAG and DATA_OUT stay. -/
def startSend (us : List Elem) (s : State) : State :=
  { s with
    seq := us, busy := true, tickArmed := true
    ghost.sends := s.ghost.sends + 1
    ghost.tickNo := 0 }

/-- SEND L (R120): BAD_LENGTH, then NOT_CONFIGURED, then DEGENERATE (R203), else the transmission starts with the code and
the repeat count as they stand now. -/
def execSend (len : BitVec 6) (s : State) : Host.Outcome State Fault Refusal :=
  if Config.lenMax < len.toNat then .next (raiseErr .badLength s)
  else if s.configured = false then .next (raiseErr .notConfigured s)
  else if isDegenerate s.active s.code len.toNat s.repeatN.toNat then .next (raiseErr .degenerate s)
  else .next (startSend (program s.active s.code len.toNat s.repeatN.toNat) s)

/-- The level an engine pin write drives (R126, R127): ACT the active level, IDL the idle level, TRAIL the level that
P_END_LEVEL names. -/
def levelOf (k : Kind) (s : State) : Level :=
  match k with
  | .act => s.actLvl
  | .idl => s.idleLvl
  | .trail =>
    match s.env.endLevel with
    | .idle => s.idleLvl
    | .low => false

/-- A consume (R126, R127): the tick flag is cleared, the pin is written, WAVE gets its record, SEQ goes on to `rest`. -/
def consume (k : Kind) (rest : List Elem) (s : State) : State :=
  { s with
    tickFlag := false
    dataOut := levelOf k s
    ghost.wave := s.ghost.wave ++
      [{ send := s.ghost.sends, tick := s.ghost.tickNo, level := levelOf k s, kind := k }]
    seq := rest }

/-- DISARM (R128): the timer is disarmed and the transmission is over. TICK_FLAG and DATA_OUT stay. -/
def disarm (s : State) : State :=
  { s with tickArmed := false, busy := false, seq := [] }

/-- The one step of the engine (R126 to R128), chosen by the head of SEQ; while a pin write waits for a tick, it holds. -/
def engineStep (s : State) : State :=
  if s.busy then
    match s.seq with
    | [] => s
    | .write k :: rest => if s.tickFlag then consume k rest s else s
    | .disarm :: _ => disarm s
  else s

end Sys2Proof.Machine
end

