-- ==== Sys2Proof/Machine/Dispatch.lean ====
section
/-! DEFINITION. The effect of a decoded command (30_encoding R91), one arm per constructor of Instr. -/

namespace Sys2Proof.Machine

def exec (i : Instr) (s : State) : Host.Outcome State Fault Refusal :=
  match i with
  | .configure => Sys2Proof.Machine.execConfigure s
  | .setrepeat n => Sys2Proof.Machine.execSetrepeat n s
  | .send len => Sys2Proof.Machine.execSend len s
  | .lowpower => Sys2Proof.Machine.execLowpower s
  | .armwake => Sys2Proof.Machine.execArmwake s
  | .sleep => Sys2Proof.Machine.execSleep s
  | .halt => Sys2Proof.Machine.execHalt s
  | .wake => Sys2Proof.Machine.execWake s

end Sys2Proof.Machine
end

