-- ==== Sys2Proof/Machine/Events.lean ====
section
/-! DEFINITION. The interrupt events and the watchdog (60_exceptions R208, R209, R219). Entry and return save and restore
nothing of the block (R211, R212), so an event is its handler's effect. -/

namespace Sys2Proof.Machine

/-- A tick interrupt taken (R208): TICK_FLAG is set; a tick that finds it set is lost. -/
def takeTick (s : State) : State :=
  { s with
    tickFlag := true
    ghost.tickNo := s.ghost.tickNo + 1
    ghost.lost := s.ghost.lost + s.tickFlag.toNat }

/-- The TICK agent (R208): a step only while the timer is armed. -/
def tickEvent (s : State) : State := if s.tickArmed then takeTick s else s

/-- The EDGE agent (R209): with the wake source armed, a halted host resumes; else nothing happens and nothing is
remembered. SE and WAKE_IE stay. -/
def edgeEvent (s : State) : State := { s with halted := s.halted && !s.wakeIe }

/-- The WDT agent (R219): a reset while the watchdog is enabled (A10). -/
def wdtEvent (s : State) : State := if s.pwr.wdtEn then wdtReset s else s

end Sys2Proof.Machine
end

