-- ==== Sys2Proof/Machine/Host.lean ====
section
/-! DEFINITION. The HOST agent: command words (30_encoding R91), the host's accesses (20_memory R62, R67, R69) and its hold. -/

namespace Sys2Proof.Machine

/-- `Command(w)` (R91): the decoded command's effect, or its error and no other effect (R84). The hold of R69 has lifted. -/
def command (w : Word) (s : State) : Host.Outcome State Fault Refusal :=
  match decode w with
  | .cmd i => exec i s
  | .illegalOp => .next (raiseErr .illegalOp s)
  | .rsvdBits => .next (raiseErr .rsvdBits s)

/-- A host read (R62), the host then at `rest`. -/
def readAccess (a : HostAddr) (n : Width) (rest : List HostOp) (s : State) : Host.Outcome State Fault Refusal :=
  match a.offset? s.env.base with
  | none => .refused (.outsideWindow (a.busAddr s.env.base))
  | some off =>
    let r := hostRead off n s
    .next ((r.2.recordRead r.1).advance rest)

/-- A host write (R67), the host then at `rest`; a CMD write while BUSY = 1 holds: the host stays where it is (R69). -/
def writeAccess (a : HostAddr) (n : Width) (v : Word) (rest : List HostOp) (s : State) :
    Host.Outcome State Fault Refusal :=
  match a.offset? s.env.base with
  | none => .refused (.outsideWindow (a.busAddr s.env.base))
  | some off =>
    match admitted off n with
    | none => .next ((raiseErr .badAccess s).advance rest)
    | some .cmd => if s.busy then .next s else command v (s.advance rest)
    | some r => .next ((writeReg r v s).advance rest)

/-- The one step of the host: its next operation, unless it is halted (R45, R78) or its program is over (R246). -/
def hostStep (s : State) : Host.Outcome State Fault Refusal :=
  if s.halted then .next s
  else
    match s.env.todo with
    | [] => .next s
    | .read a n :: rest => readAccess a n rest s
    | .write a n v :: rest => writeAccess a n v rest s

/-- The one step of an agent (R7, R72). An agent with no enabled step leaves the state as it is (A3). -/
def agentStep (a : Agent) (s : State) : Host.Outcome State Fault Refusal :=
  match a with
  | .host => hostStep s
  | .engine => .next (engineStep s)
  | .tick => .next (tickEvent s)
  | .edge => .next (edgeEvent s)
  | .wdt => .next (wdtEvent s)

/-- The state in which the host's next operation is a CMD write of `w` and the host is the next agent to step. The write is
performed only by a host that is not halted (R78) and while BUSY = 0 (R69), so both are lifted (A16). -/
def placeCommand (w : Word) (s : State) : State :=
  let free := if s.busy then disarm s else s
  { free with
    halted := false
    env.program := [HostOp.cmd w]
    env.todo := [HostOp.cmd w]
    env.sched := .host :: s.env.sched }

end Sys2Proof.Machine
end

