-- ==== Sys2Proof/Machine/Step.lean ====
section
/-! DEFINITION. One step of the machine: one atomic transition of the agent scheduled next (00_scope R7, 20_memory R72). -/

namespace Sys2Proof.Machine

/-- One atomic transition (R72). -/
def step (s : State) : Host.Outcome State Fault Refusal := agentStep s.nextAgent s.afterPick

/-- The state `s` with the command word `w` placed where the very next step performs it: the host's one operation, and the
host scheduled next (A1, A16). -/
def State.withFetchWord (s : State) (nbits w : Nat) : State := placeCommand (tableWord nbits w) s

end Sys2Proof.Machine
end

