-- ==== Sys2Proof/Machine/Assembler.lean ====
section
/-! DEFINITION. The assembler of host programs (30_encoding R87 to R90): its lines, their operand checks, their expansion into
bus accesses, and the reading of a line of text. -/

namespace Sys2Proof.Machine

/-- A line of a host program (R87) or a pseudo-instruction (R89, R90), with its operands as the numbers the text holds. -/
inductive AsmLine where
  | wr (r : Reg) (imm : Nat)
  | rd (r : Reg)
  | configure
  | setrepeat (n : Nat)
  | send (l : Nat)
  | lowpower
  | armwake
  | sleep
  | halt
  | wake
  | cmd (imm : Nat)
  /-- `proto T, SH, SL, ZH, ZL, OH, OL, I` (R89). -/
  | proto (t sh sl zh zl oh ol i : Nat)
  /-- `tx V, L` (R90). -/
  | tx (v l : Nat)
  /-- `nap` (R90). -/
  | nap
  deriving DecidableEq, Repr

/-- The operands fit their fields (R87: an assembler refuses an operand that does not; R88, R89). -/
def AsmLine.WellFormed : AsmLine → Bool
  | .wr _ imm => fitsWord imm
  | .rd _ => true
  | .configure => true
  | .setrepeat n => fitsRepeat n
  | .send l => fitsLength l
  | .lowpower => true
  | .armwake => true
  | .sleep => true
  | .halt => true
  | .wake => true
  | .cmd imm => fitsWord imm
  | .proto t sh sl zh zl oh ol i =>
    fitsWord t && fitsCount sh && fitsCount sl && fitsCount zh && fitsCount zl && fitsCount oh && fitsCount ol && fitsFlag i
  | .tx v l => fitsWord v && fitsLength l
  | .nap => true

/-- The write of a command's word to CMD (R87). -/
def HostOp.command (i : Instr) : HostOp := HostOp.cmd (encode i)

/-- The write of `timing(h, l)` to a register (R88, R89). -/
def HostOp.wrTiming (r : Reg) (h l : Nat) : HostOp :=
  HostOp.wr r (timingWord (BitVec.ofNat 16 h) (BitVec.ofNat 16 l))

/-- The accesses a line stands for, in order (R87, R89, R90). -/
def AsmLine.accesses : AsmLine → List HostOp
  | .wr r imm => [HostOp.wr r (BitVec.ofNat 32 imm)]
  | .rd r => [HostOp.rd r]
  | .configure => [HostOp.command .configure]
  | .setrepeat n => [HostOp.command (.setrepeat (BitVec.ofNat 16 n))]
  | .send l => [HostOp.command (.send (BitVec.ofNat 6 l))]
  | .lowpower => [HostOp.command .lowpower]
  | .armwake => [HostOp.command .armwake]
  | .sleep => [HostOp.command .sleep]
  | .halt => [HostOp.command .halt]
  | .wake => [HostOp.command .wake]
  | .cmd imm => [HostOp.cmd (BitVec.ofNat 32 imm)]
  | .proto t sh sl zh zl oh ol i =>
    [HostOp.wr .tickUs (BitVec.ofNat 32 t), HostOp.wrTiming .sync sh sl, HostOp.wrTiming .zero zh zl,
      HostOp.wrTiming .one oh ol, HostOp.wr .pflags (BitVec.ofNat 32 i), HostOp.command .configure]
  | .tx v l => [HostOp.wr .code (BitVec.ofNat 32 v), HostOp.command (.send (BitVec.ofNat 6 l))]
  | .nap => [HostOp.command .sleep, HostOp.command .wake]

/-- A line assembles if its operands fit (R87). -/
def AsmLine.assemble (line : AsmLine) : Option (List HostOp) :=
  if line.WellFormed then some line.accesses else none

/-- A program assembles if each of its lines does. -/
def assembleProgram : List AsmLine → Option (List HostOp)
  | [] => some []
  | line :: rest => line.assemble.bind fun ops => (assembleProgram rest).map (ops ++ ·)

/-! ### Reading a line of text (R87, R88; what the rules leave open of the text is A19) -/

/-- The value of a digit character; letters in either case. -/
def digitValue (ch : Char) : Nat :=
  let n := ch.toNat
  if 48 ≤ n ∧ n ≤ 57 then n - 48
  else if 97 ≤ n ∧ n ≤ 102 then n - 87
  else if 65 ≤ n ∧ n ≤ 70 then n - 55
  else 16

/-- A non-empty string of digits in a base. -/
def digitsValue (base : Nat) (cs : List Char) : Option Nat :=
  if cs ≠ [] ∧ cs.all (fun ch => digitValue ch < base) then
    some (cs.foldl (fun acc ch => acc * base + digitValue ch) 0)
  else none

/-- An unsigned literal: decimal, `0x` hexadecimal or `0b` binary (R88). -/
def literalValue (cs : List Char) : Option Nat :=
  match cs with
  | '0' :: 'x' :: ds => digitsValue 16 ds
  | '0' :: 'b' :: ds => digitsValue 2 ds
  | ds => digitsValue 10 ds

/-- The register names of R87. -/
def regNames : List (List Char × Reg) :=
  [("CMD".toList, .cmd), ("STATUS".toList, .status), ("ERR".toList, .err),
    ("TICK_US".toList, .tickUs), ("SYNC".toList, .sync), ("ZERO".toList, .zero),
    ("ONE".toList, .one), ("PFLAGS".toList, .pflags), ("CODE".toList, .code),
    ("REPEAT".toList, .repeatCount)]

/-- The lines without an operand (R87, R90). -/
def plainLines : List (List Char × AsmLine) :=
  [("configure".toList, .configure), ("lowpower".toList, .lowpower),
    ("armwake".toList, .armwake), ("sleep".toList, .sleep), ("halt".toList, .halt),
    ("wake".toList, .wake), ("nap".toList, .nap)]

/-- The characters that separate the words of a line: white space, commas and the brackets of `timing(h, l)`. -/
def isSeparator (ch : Char) : Bool :=
  ch == ' ' || ch == '\t' || ch == '\r' || ch == ',' || ch == '(' || ch == ')'

/-- The words of a line. -/
def splitWords : List Char → List (List Char)
  | [] => []
  | ch :: cs =>
    if isSeparator ch then splitWords cs
    else
      match cs with
      | [] => [[ch]]
      | next :: _ =>
        if isSeparator next then [ch] :: splitWords cs
        else
          match splitWords cs with
          | [] => [[ch]]
          | w :: ws => (ch :: w) :: ws

/-- An immediate: a literal, or `timing(h, l)` with counts that fit (R88). DESIGN CHOICE (A19): where a line may hold
`timing(h, l)` is open in R88; it is read here, as the imm of `wr` and `cmd`, and nowhere else. -/
def immediateValue (ws : List (List Char)) : Option Nat :=
  match ws with
  | [w] => literalValue w
  | [w, h, l] =>
    if w = "timing".toList then
      (literalValue h).bind fun hv => (literalValue l).bind fun lv =>
        if fitsCount hv && fitsCount lv then some (lv * 65536 + hv) else none
    else none
  | _ => none

/-- A line's operation from its words (R87, R89, R90). DESIGN CHOICE (A19): the operands of `setrepeat`, `send`, `tx` and `proto`
are literals; R88 does not say whether `timing(h, l)` may stand there, and it is refused. -/
def lineOfWords (ws : List (List Char)) : Option AsmLine :=
  match ws with
  | [] => none
  | w :: args =>
    if args = [] then plainLines.lookup w
    else if w = "wr".toList then
      (args.head?.bind fun r => regNames.lookup r).bind fun r => (immediateValue args.tail).map (.wr r)
    else if w = "rd".toList then
      if args.tail = [] then (args.head?.bind fun r => regNames.lookup r).map .rd else none
    else if w = "cmd".toList then (immediateValue args).map .cmd
    else
      match args.mapM literalValue with
      | none => none
      | some vals =>
        if w = "setrepeat".toList then
          match vals with
          | [n] => some (.setrepeat n)
          | _ => none
        else if w = "send".toList then
          match vals with
          | [l] => some (.send l)
          | _ => none
        else if w = "tx".toList then
          match vals with
          | [v, l] => some (.tx v l)
          | _ => none
        else if w = "proto".toList then
          match vals with
          | [t, sh, sl, zh, zl, oh, ol, i] => some (.proto t sh sl zh zl oh ol i)
          | _ => none
        else none

/-- The words of a line without its comment and without its label (R87: `;` starts a comment, a label is `name:`). -/
def lineWords (cs : List Char) : List (List Char) :=
  match splitWords (cs.takeWhile (· != ';')) with
  | [] => []
  | w :: ws => if w.getLast? = some ':' then ws else w :: ws

/-- The accesses of one line of text; none where an assembler refuses it (R87). An empty line has no access. -/
def assembleText (cs : List Char) : Option (List HostOp) :=
  match lineWords cs with
  | [] => some []
  | ws => (lineOfWords ws).bind AsmLine.assemble

end Sys2Proof.Machine
end

