-- ==== Sys2Proof/Machine/Counter.lean ====
section
/-! DEFINITION. The counter realisation of the pulse program (41_transmit R129): what a hardware realisation may keep instead
of the list SEQ. It is no part of State; a statement says that it emits the program of R121 (A18). -/

namespace Sys2Proof.Machine

/-- `seg`: the high or the low segment of the current pulse (R129). -/
inductive Seg where
  | high
  | low
  deriving DecidableEq, Repr, Inhabited

/-- The four counters (R129): frames left, current bit (none is SYNC), segment, and units left in the segment. -/
structure Counters where
  rep : Nat
  idx : Option Nat
  seg : Seg
  cnt : Nat
  deriving DecidableEq, Repr, Inhabited

/-- Where a counter realisation stands: in a segment, at the TRAIL, at the DISARM, or finished. -/
inductive CounterPos where
  | running (k : Counters)
  | trail
  | disarm
  | finished
  deriving DecidableEq, Repr, Inhabited

/-- The timing of the pulse at a position (R122). -/
def pulseAt (p : Protocol) (c : Word) (idx : Option Nat) : Half × Half :=
  match idx with
  | some i => bitTiming p (c.getLsbD i)
  | none => syncTiming p

/-- A pulse starts at its first non-empty segment: an empty segment is skipped without a step (R129). -/
def enterPulse (p : Protocol) (c : Word) (rep : Nat) (idx : Option Nat) : Counters :=
  let t := pulseAt p c idx
  if t.1 = 0#16 then { rep := rep, idx := idx, seg := .low, cnt := t.2.toNat }
  else { rep := rep, idx := idx, seg := .high, cnt := t.1.toNat }

/-- The first position of a frame: bit L-1, or the sync pulse where L = 0 (R123, R132). -/
def firstIdx (l : Nat) : Option Nat :=
  match l with
  | 0 => none
  | i + 1 => some i

/-- The pulse after the one at `idx` (R129): the next lower bit, then SYNC; after SYNC one frame less is left, and after the
last frame comes the TRAIL. -/
def nextPulse (p : Protocol) (c : Word) (l rep : Nat) (idx : Option Nat) : CounterPos :=
  match idx with
  | some (i + 1) => .running (enterPulse p c rep (some i))
  | some 0 => .running (enterPulse p c rep none)
  | none =>
    match rep - 1 with
    | 0 => .trail
    | r + 1 => .running (enterPulse p c (r + 1) (firstIdx l))

/-- One step of the counters (R129): the unit is emitted, and where the segment ends, the next non-empty segment begins. -/
def Counters.advance (p : Protocol) (c : Word) (l : Nat) (k : Counters) : CounterPos :=
  if 1 < k.cnt then .running { k with cnt := k.cnt - 1 }
  else
    match k.seg with
    | .high =>
      if (pulseAt p c k.idx).2 = 0#16 then nextPulse p c l k.rep k.idx
      else .running { k with seg := .low, cnt := (pulseAt p c k.idx).2.toNat }
    | .low => nextPulse p c l k.rep k.idx

/-- The position after one engine step. -/
def CounterPos.advance (p : Protocol) (c : Word) (l : Nat) : CounterPos → CounterPos
  | .running k => k.advance p c l
  | .trail => .disarm
  | .disarm => .finished
  | .finished => .finished

/-- The element a position emits: ACT in a high segment, IDL in a low one (R129). -/
def CounterPos.emit : CounterPos → List Elem
  | .running k => [.write (match k.seg with | .high => .act | .low => .idl)]
  | .trail => [.write .trail]
  | .disarm => [.disarm]
  | .finished => []

/-- Where a SEND with n repeats starts the counters (R129, R131). -/
def counterStart (p : Protocol) (c : Word) (l n : Nat) : CounterPos :=
  match n with
  | 0 => .trail
  | r + 1 => .running (enterPulse p c (r + 1) (firstIdx l))

/-- The elements emitted in `steps` engine steps. -/
def CounterPos.emitted (p : Protocol) (c : Word) (l : Nat) : Nat → CounterPos → List Elem
  | 0, _ => []
  | steps + 1, pos => pos.emit ++ CounterPos.emitted p c l steps (pos.advance p c l)

end Sys2Proof.Machine
end

