-- ==== Sys2Proof/Safety.lean ====
section
/-! DEFINITION. The terms claims use: runs and fairness (60_exceptions R215), the invariants of R48, the launch premises of
R260, the end of a run (70_reset R246), and the waveform a SEND must produce (41_transmit R130, R135, R258). -/

namespace Sys2Proof.Machine

/-! ### Runs -/

/-- `t` is reached from `s` by steps of the machine. -/
inductive Reaches (s : State) : State → Prop where
  | refl : Reaches s s
  | tail {t u : State} (h : Reaches s t) (hs : step t = .next u) : Reaches s u

/-- Is a CMD write the host's next operation, so that BUSY holds it (R69)? -/
def State.cmdWriteNext (s : State) : Bool :=
  match s.env.todo with
  | .write a n _ :: _ => (a.offset? s.env.base).bind (admitted · n) == some Reg.cmd
  | _ => false

/-- Has an agent an enabled step (R7, R45, R69, R126 to R128, R208, R209, R219)? -/
def State.enabled (s : State) (a : Agent) : Bool :=
  match a with
  | .host => !s.halted && !s.env.todo.isEmpty && !(s.busy && s.cmdWriteNext)
  | .engine =>
    s.busy &&
      match s.seq with
      | [] => false
      | .write _ :: _ => s.tickFlag
      | .disarm :: _ => true
  | .tick => s.tickArmed
  | .edge => true
  | .wdt => s.pwr.wdtEn

/-- One place further in a run, agent `a` being scheduled: the step of `a`, or the stop that the run has already come to. -/
def stepAs (a : Agent) (o : Host.Outcome State Fault Refusal) : Host.Outcome State Fault Refusal :=
  match o with
  | .next s => step { s with env.sched := [a] }
  | .fault r => .fault r
  | .refused r => .refused r

/-- A run under the schedule `agents` (R7, R246): place n + 1 is what agent `agents n` makes of place n. A run that is refused
(R61) stays so: it goes through no further state. -/
def IsRun (agents : Nat → Agent) (σ : Nat → Host.Outcome State Fault Refusal) : Prop := ∀ n, σ (n + 1) = stepAs (agents n) (σ n)

/-- Agent `a` is treated weakly fairly: enabled from some place on for ever, it is scheduled again. -/
def FairFor (a : Agent) (agents : Nat → Agent) (σ : Nat → Host.Outcome State Fault Refusal) : Prop :=
  ∀ n, (∀ m, n ≤ m → ∃ s, σ m = .next s ∧ s.enabled a = true) → ∃ m, n ≤ m ∧ agents m = a

/-- TICK_LIVE (R260), the premise P_TICK_LIVE (R6, R215). -/
def TickLive (agents : Nat → Agent) (σ : Nat → Host.Outcome State Fault Refusal) : Prop := FairFor .tick agents σ

/-- A weakly fair run (R246): the host, the engine and, by P_TICK_LIVE, the timer. EDGE and WDT events need not happen
(R209, R219). -/
def WeaklyFair (agents : Nat → Agent) (σ : Nat → Host.Outcome State Fault Refusal) : Prop :=
  FairFor .host agents σ ∧ FairFor .engine agents σ ∧ TickLive agents σ

/-! ### Launch premises (R260) -/

/-- FRESH: a POWER_ON reset state (R240), whatever the draws, with any host program, schedule and parameters. -/
def State.Fresh (s : State) : Prop :=
  ∃ (active : Protocol) (pwr : Pwr) (env : Env),
    env.base % Config.windowBytes = 0 ∧ env.todo = env.program ∧ env.reads = [] ∧
    s = { State.reset with active := active, pwr := { pwr with lpcfg := false }, env := env }

/-- NO_FAULT. -/
def State.NoFault (s : State) : Prop := s.ghost.faultMark = false

/-- IDLE_ENGINE. -/
def State.IdleEngine (s : State) : Prop := s.busy = false ∧ s.seq = [] ∧ s.tickArmed = false

/-- CLEAN_FLAG. -/
def State.CleanFlag (s : State) : Prop := s.tickFlag = false

/-- NO_LOSS between two states of a run. -/
def NoLoss (s t : State) : Prop := t.ghost.lost = s.ghost.lost

/-- LOW_POWER_CFG. -/
def State.LowPowerCfg (s : State) : Prop := s.pwr = lowPowerPwr

/-- ARMED. -/
def State.WakeArmed (s : State) : Prop := s.wakeIe = true

/-- CONFIGURED_WITH(p). -/
def State.ConfiguredWith (p : Protocol) (s : State) : Prop := s.configured = true ∧ s.active = p

/-! ### Invariants (R48) -/

/-- SEQ of a transmission in progress (R121): level units, then TRAIL, then DISARM; or what is left of that. -/
def seqShape : List Elem → Bool
  | [] => false
  | .disarm :: rest => rest.isEmpty
  | .write .trail :: rest => rest == [.disarm]
  | .write .act :: rest => rest != [.disarm] && seqShape rest
  | .write .idl :: rest => rest != [.disarm] && seqShape rest

/-- Items 1 to 5 of R48, with the shape of SEQ that item 2 needs to be kept by every step, and P_BASE a multiple of 0x40
(R6). -/
structure State.Inv (s : State) : Prop where
  armed_iff_busy : s.tickArmed = s.busy
  seq_busy : s.busy = true → seqShape s.seq = true
  seq_idle : s.busy = false → s.seq = []
  halted_se : s.halted = true → s.se = true ∧ s.busy = false
  configured_level : s.configured = true → s.actLvl = !s.active.inv ∧ s.active.tickUs ≠ 0#16
  busy_configured : s.busy = true → s.configured = true
  base_aligned : s.env.base % Config.windowBytes = 0

/-- Once the low-power configuration has been applied, PWR holds exactly what ENTER_LOW_POWER writes (R42, R160). -/
def State.PwrInv (s : State) : Prop := s.pwr.lpcfg = true → s.pwr = lowPowerPwr

/-- FAULT is set wherever an error stands recorded (R204). -/
def State.ErrInv (s : State) : Prop := s.err ≠ .noError → s.ghost.faultMark = true

/-- The consumes of the send in progress: its WAVE records (R47, R126, R127). -/
def State.consumes (s : State) : Nat := (s.ghost.wave.filter fun r => r.send == s.ghost.sends).length

/-- The tick count of R48 item 6, while a transmission is in progress, with s its stale flag (R248) at most 1: the consumes
of the send and a tick still to be consumed never exceed its ticks by more than that (A12). No record is of a later send. -/
def State.TickInv (s : State) : Prop :=
  (∀ r ∈ s.ghost.wave, r.send ≤ s.ghost.sends) ∧
    (s.busy = true → s.consumes + s.tickFlag.toNat ≤ s.ghost.tickNo + 1)

/-! ### The waveform of a SEND (R130) -/

/-- The kinds of the pin writes of a pulse program, in order. -/
def pinWrites : List Elem → List Kind
  | [] => []
  | .write k :: rest => k :: pinWrites rest
  | .disarm :: rest => pinWrites rest

/-- The WAVE records of the pin writes `ks` of send number `send` when the first comes at tick `tick` and each later one a tick
later (R130 item 1). -/
def recordsFrom (send : Nat) (level : Kind → Level) : Nat → List Kind → List WaveRec
  | _, [] => []
  | tick, k :: ks => { send := send, tick := tick, level := level k, kind := k } :: recordsFrom send level (tick + 1) ks

/-- The records of a whole SEND that starts in `s` with length `l` under R130's premises, the first at tick 1. -/
def sendRecords (s : State) (l : Nat) : List WaveRec :=
  recordsFrom (s.ghost.sends + 1) (levelOf · s) 1 (pinWrites (program s.active s.code l s.repeatN.toNat))

/-- The ideal schedule of a SEND of `n` consumes (95_test_vectors): tick and consume alternate, then DISARM. -/
def idealSchedule : Nat → List Agent
  | 0 => [.engine]
  | n + 1 => .tick :: .engine :: idealSchedule n

/-- The duration of one pulse in microseconds, with no lost tick (R258; for observation only, R215). -/
def pulseMicros (p : Protocol) (t : Half × Half) : Nat := timingTicks t * p.tickUs.toNat

/-- The duration of one frame in microseconds, with no lost tick (R258; for observation only, R215). -/
def frameMicros (p : Protocol) (c : Word) (l : Nat) : Nat := frameTicks p c l * p.tickUs.toNat

/-! ### The inversion law (R136) -/

/-- A level record and its counterpart under the inverted protocol: same send, tick and kind; the level is the complement,
but for a TRAIL under P_END_LEVEL = LOW, where both are 0. -/
def invertedRecord (e : EndLevel) (r r' : WaveRec) : Prop :=
  r'.send = r.send ∧ r'.tick = r.tick ∧ r'.kind = r.kind ∧
    r'.level = (if r.kind = .trail ∧ e = .low then r.level else !r.level)

/-- Two states that differ only in the polarity of the active protocol and what follows from it: ACT_LVL, the pin, what the
host has read, and the levels of the records made since WAVE held `w` and `w'`. -/
structure InvertedPair (w w' : List WaveRec) (s s' : State) : Prop where
  same : s' = { s with
    active := { s.active with inv := s'.active.inv }
    actLvl := s'.actLvl
    dataOut := s'.dataOut
    ghost := { s.ghost with wave := s'.ghost.wave }
    env := { s.env with reads := s'.env.reads } }
  polarity : s'.active.inv = !s.active.inv
  level : s'.actLvl = !s.actLvl
  waves : ∃ v v', s.ghost.wave = w ++ v ∧ s'.ghost.wave = w' ++ v' ∧ List.Forall₂ (invertedRecord s.env.endLevel) v v'

/-! ### The end of a run (R246) -/

/-- Does a host operation issue the command `i`? -/
def HostOp.issues (op : HostOp) (base : Nat) (i : Instr) : Bool :=
  match op with
  | .read _ _ => false
  | .write a n v => (a.offset? base).bind (admitted · n) == some Reg.cmd && decode v == .cmd i

/-- Does the program end with SLEEP, or with HALT while SE = 1 (R246 item 4; A20)? DESIGN CHOICE (A22): WAKE_IE is not asked
for, so a last SLEEP or HALT with no wake source armed counts as well, although R167 calls its host stuck. -/
def State.endsAsleep (s : State) : Bool :=
  match s.env.program.getLast? with
  | none => false
  | some op => op.issues s.env.base .sleep || (op.issues s.env.base .halt && s.se)

/-- A final state for the host program (R246 items 1 to 4). DESIGN CHOICE (A22): a host asleep with WAKE_IE = 0 after the last
operation meets item 4 and is final; R246's "held, stuck, or busy is not final" is read as being about a program not yet done. -/
def State.Final (s : State) : Prop :=
  s.env.todo = [] ∧ s.IdleEngine ∧ s.NoFault ∧ (s.halted = false ∨ s.endsAsleep = true)

/-- "P ends with post Q" (R246): every weakly fair run of P from a POWER_ON reset state, under every schedule, reaches a final
state where Q holds (A20). A run that is held, stuck or refused before that reaches none, so P then does not end. -/
def EndsWith (prog : List HostOp) (post : State → Prop) : Prop :=
  ∀ (start : State) (agents : Nat → Agent) (σ : Nat → Host.Outcome State Fault Refusal),
    start.Fresh → start.env.program = prog → σ 0 = .next start → IsRun agents σ → WeaklyFair agents σ →
    ∃ n s, σ n = .next s ∧ s.Final ∧ post s

end Sys2Proof.Machine
end

