-- ==== Sys2Proof/Certificates/Slice0/Obligations.lean ====
section
/-! DEFINITION. The statements for the provers. Each docstring names the rule of spec/ it formalises; OBLIGATIONS.json lists
them with their tiers. The host's program, what it has read and the schedule stand in `env`: they are the model's data for what
R7, R22 and R62 leave outside the block (log entries 1, 2 and 11), and statements speak of them through `nextAgent`,
`afterPick`, `env.todo` and `env.reads`. -/

open Sys2Proof Sys2Proof.Machine

/-! ### Encoding (30_encoding) -/

/-- R80, R82, R83, R91: a well-formed command's word decodes to that command, with every operand value. -/
def Obligations.DecodeOfEncode : Prop :=
  ∀ i : Instr, i.WellFormed = true → decode (encode i) = .cmd i

/-- R82, R86: a word has one meaning; the word of the command it decodes to is the word itself. -/
def Obligations.EncodeOfDecode : Prop :=
  ∀ (w : Word) (i : Instr), decode w = .cmd i → encode i = w

/-- R82: a word is a command's exactly when (w & mask) = match, with the operands at N = 15:0 and L = 5:0; a word whose OP
names a command but which fails its mask records RSVD_BITS and changes nothing but ERR and the ghost FAULT. -/
def Obligations.WordMatchesCommandMask : Prop :=
  ∀ w : Word,
    (decode w = .cmd .configure ↔ w &&& 0xFFFFFFFF = 0x10000000) ∧
    (∀ n, decode w = .cmd (.setrepeat n) ↔ w &&& 0xFFFF0000 = 0x20000000 ∧ n = w.extractLsb' 0 16) ∧
    (∀ l, decode w = .cmd (.send l) ↔ w &&& 0xFFFFFFC0 = 0x30000000 ∧ l = w.extractLsb' 0 6) ∧
    (decode w = .cmd .lowpower ↔ w &&& 0xFFFFFFFF = 0x80000000) ∧
    (decode w = .cmd .armwake ↔ w &&& 0xFFFFFFFF = 0x90000000) ∧
    (decode w = .cmd .sleep ↔ w &&& 0xFFFFFFFF = 0xA0000000) ∧
    (decode w = .cmd .halt ↔ w &&& 0xFFFFFFFF = 0xB0000000) ∧
    (decode w = .cmd .wake ↔ w &&& 0xFFFFFFFF = 0xC0000000) ∧
    (decode w = .rsvdBits ↔
      w.extractLsb' 28 4 ∈ [0x1#4, 0x2#4, 0x3#4, 0x8#4, 0x9#4, 0xA#4, 0xB#4, 0xC#4] ∧
      ∀ i : Instr, w &&& i.maskWord ≠ i.matchWord) ∧
    (decode w = .rsvdBits → ∀ s : State, command w s = .next { s with
      err := if s.err = .noError then .rsvdBits else s.err
      ghost := { s.ghost with faultMark := s.ghost.faultMark || s.err == .noError } })

/-- R84 items 1 and 4, R86: exactly the words whose OP is 0x0, 0x4 to 0x7 or 0xD to 0xF are illegal, whatever their other
bits; such a word records ILLEGAL_OP and changes nothing but ERR and the ghost FAULT. -/
def Obligations.IllegalOpcodesRecordError : Prop :=
  ∀ w : Word,
    (decode w = .illegalOp ↔ w.extractLsb' 28 4 ∈ [0x0#4, 0x4#4, 0x5#4, 0x6#4, 0x7#4, 0xD#4, 0xE#4, 0xF#4]) ∧
    (decode w = .illegalOp → ∀ s : State, ∃ t, command w s = .next t ∧
      t.err = (if s.err = .noError then .illegalOp else s.err) ∧
      t = { s with err := t.err, ghost := { s.ghost with faultMark := s.ghost.faultMark || s.err == .noError } })

/-- Words of 95_test_vectors (DC-1 to DC-7, SE-3, SE-6, CF-8, SR-5) and of the table of R82. -/
def Obligations.SpecCommandWords : Prop :=
  decode 0x10000000 = .cmd .configure ∧ decode 0x2000ABCD = .cmd (.setrepeat 43981) ∧
  decode 0x30000020 = .cmd (.send 32) ∧ decode 0x80000000 = .cmd .lowpower ∧
  decode 0x90000000 = .cmd .armwake ∧ decode 0xA0000000 = .cmd .sleep ∧
  decode 0xB0000000 = .cmd .halt ∧ decode 0xC0000000 = .cmd .wake ∧
  decode 0x00000000 = .illegalOp ∧ decode 0x40000000 = .illegalOp ∧ decode 0x50000000 = .illegalOp ∧
  decode 0x60000000 = .illegalOp ∧ decode 0x70000000 = .illegalOp ∧ decode 0xD0000000 = .illegalOp ∧
  decode 0xE0000000 = .illegalOp ∧ decode 0xFFFFFFFF = .illegalOp ∧ decode 0x4FFFFFFF = .illegalOp ∧
  decode 0x10000001 = .rsvdBits ∧ decode 0x20010000 = .rsvdBits ∧ decode 0x30000040 = .rsvdBits ∧
  decode 0x30000061 = .rsvdBits ∧ decode 0x90000001 = .rsvdBits ∧ decode 0xB8000000 = .rsvdBits ∧
  decode 0xC0000010 = .rsvdBits

/-- R87, R89, R90: what `proto`, `tx` and `nap` expand to, and the operands an assembler refuses. -/
def Obligations.AssemblerExpansions : Prop :=
  (∀ t sh sl zh zl oh ol i : Nat, t ≤ 0xFFFFFFFF → sh ≤ 65535 → sl ≤ 65535 → zh ≤ 65535 → zl ≤ 65535 → oh ≤ 65535 →
    ol ≤ 65535 → i ≤ 1 →
    (AsmLine.proto t sh sl zh zl oh ol i).assemble = some
      [.wr .tickUs (BitVec.ofNat 32 t), .wr .sync (BitVec.ofNat 32 (sl * 65536 + sh)),
        .wr .zero (BitVec.ofNat 32 (zl * 65536 + zh)), .wr .one (BitVec.ofNat 32 (ol * 65536 + oh)),
        .wr .pflags (BitVec.ofNat 32 i), .cmd 0x10000000]) ∧
  (∀ v l : Nat, v ≤ 0xFFFFFFFF → l ≤ 63 →
    (AsmLine.tx v l).assemble = some [.wr .code (BitVec.ofNat 32 v), .cmd (BitVec.ofNat 32 (0x30000000 + l))]) ∧
  AsmLine.nap.assemble = some [.cmd 0xA0000000, .cmd 0xC0000000] ∧
  (∀ n : Nat, 65535 < n → (AsmLine.setrepeat n).assemble = none) ∧
  (∀ l : Nat, 63 < l → (AsmLine.send l).assemble = none) ∧
  (∀ (r : Reg) (v : Nat), 0xFFFFFFFF < v → (AsmLine.wr r v).assemble = none ∧ (AsmLine.cmd v).assemble = none)

/-! ### The host and the window (20_memory) -/

/-- R67, R91, R162: where the host steps next, is not halted and BUSY = 0, a 4-byte write of `w` to CMD is `Command(w)` with
the host already past that write; a decoded command is `exec` of it there. Around it a step changes only the schedule (or the
free-value counter) and the host's place in its program, which are the model's data (log entries 1 and 2). -/
def Obligations.StepRunsDecodedCommand : Prop :=
  ∀ (s : State) (a : HostAddr) (w : Word) (rest : List HostOp),
    s.nextAgent = .host → s.halted = false → s.busy = false →
    s.env.todo = .write a .word w :: rest → a.offset? s.env.base = some 0x00#6 →
    step s = command w (s.afterPick.advance rest) ∧
    (∀ i, decode w = .cmd i → step s = exec i (s.afterPick.advance rest)) ∧
    ∃ sched drawNo, s.afterPick.advance rest =
      { s with env := { s.env with todo := rest, sched := sched, drawNo := drawNo } }

/-- R69: a 4-byte write to CMD while BUSY = 1 holds: the host stays before it and nothing changes. -/
def Obligations.CmdWriteHoldsWhileBusy : Prop :=
  ∀ (s : State) (a : HostAddr) (w : Word) (rest : List HostOp),
    s.nextAgent = .host → s.busy = true →
    s.env.todo = .write a .word w :: rest → a.offset? s.env.base = some 0x00#6 →
    step s = .next s.afterPick ∧ s.afterPick.env.todo = s.env.todo

/-- R7, R11, R45, R69, R78: an agent with no enabled step changes nothing (that it is scheduled at all is the model's choice,
log entry 3). A halted host is one of them. Choosing the agent takes the schedule's head, and in every state it changes the
schedule and the free-value counter alone (log entry 2); the other statements say what a step does beside that, with
`afterPick`. -/
def Obligations.DisabledAgentHolds : Prop :=
  (∀ s : State, s.enabled s.nextAgent = false → step s = .next s.afterPick) ∧
  (∀ s : State, ∃ sched drawNo, s.afterPick = { s with env := { s.env with sched := sched, drawNo := drawNo } }) ∧
  (∀ (s : State) (a : Agent) (rest : List Agent), s.env.sched = a :: rest →
    s.nextAgent = a ∧ s.afterPick = { s with env := { s.env with sched := rest } })

/-- R61, R66: an absolute address names the offset addr - P_BASE inside the window; the model refuses a host access outside
it. -/
def Obligations.WindowAddressing : Prop :=
  (∀ (base addr : Nat) (off : BitVec 6),
    (HostAddr.bus addr).offset? base = some off ↔ base ≤ addr ∧ addr < base + 0x40 ∧ off.toNat = addr - base) ∧
  (∀ (s : State) (addr : Nat) (n : Width) (v : Word) (rest : List HostOp),
    s.nextAgent = .host → s.halted = false → (addr < s.env.base ∨ s.env.base + 0x40 ≤ addr) →
    (s.env.todo = .read (.bus addr) n :: rest ∨ s.env.todo = .write (.bus addr) n v :: rest) →
    step s = .refused (.outsideWindow addr))

/-- R63, R64, R65, R202: an access in the window whose width is not 4, or whose offset is misaligned or above 0x24, records
BAD_ACCESS; a read returns 0, and nothing else of the block, its parameters or the loaded program changes (no command is
issued). That the host keeps what it reads in `env.reads` is the model's choice (log entry 11). -/
def Obligations.BadAccessRecordsOnly : Prop :=
  ∀ (s : State) (a : HostAddr) (off : BitVec 6) (n : Width) (v : Word) (rest : List HostOp),
    s.nextAgent = .host → s.halted = false → a.offset? s.env.base = some off →
    (n ≠ .word ∨ off.toNat % 4 ≠ 0 ∨ 0x24 < off.toNat) →
    (s.env.todo = .read a n :: rest → ∃ sched drawNo, step s = .next { s with
      err := if s.err = .noError then .badAccess else s.err
      ghost := { s.ghost with faultMark := s.ghost.faultMark || s.err == .noError }
      env := { s.env with todo := rest, reads := s.env.reads ++ [0], sched := sched, drawNo := drawNo } }) ∧
    (s.env.todo = .write a n v :: rest → ∃ sched drawNo, step s = .next { s with
      err := if s.err = .noError then .badAccess else s.err
      ghost := { s.ghost with faultMark := s.ghost.faultMark || s.err == .noError }
      env := { s.env with todo := rest, sched := sched, drawNo := drawNo } })

/-- R23, R62, R201: each register stands at its offset of R23; a 4-byte read of it, even while BUSY = 1, returns its value, an
error as its code of R201, and changes nothing of the block, its parameters or the loaded program. That the host keeps what it
reads in `env.reads` is the model's choice (log entry 11). -/
def Obligations.ReadReturnsRegister : Prop :=
  ∀ (s : State) (a : HostAddr) (r : Reg) (off : BitVec 6) (v : Word) (rest : List HostOp),
    (r, off, v) ∈
      [(Reg.cmd, 0x00#6, 0#32), (.status, 0x04, s.statusWord),
        (.err, 0x08,
          match s.err with
          | .noError => 0
          | .illegalOp => 1
          | .rsvdBits => 2
          | .badLength => 3
          | .notConfigured => 4
          | .degenerate => 5
          | .badTick => 6
          | .badAccess => 7),
        (.tickUs, 0x0C, s.tickUs.setWidth 32), (.sync, 0x10, s.sync), (.zero, 0x14, s.zero), (.one, 0x18, s.one),
        (.pflags, 0x1C, if s.inv then 1 else 0), (.code, 0x20, s.code), (.repeatCount, 0x24, s.repeatN.setWidth 32)] →
    r.offset = off ∧ readReg r s = v ∧
    (s.nextAgent = .host → s.halted = false → s.env.todo = .read a .word :: rest → a.offset? s.env.base = some off →
      ∃ sched drawNo, step s = .next { s with
        env := { s.env with todo := rest, reads := s.env.reads ++ [v], sched := sched, drawNo := drawNo } })

/-- R68: a 4-byte aligned write to STATUS (0x04), ERR (0x08) or REPEAT (0x24) is ignored; only the host goes on (log entries
1 and 2). -/
def Obligations.ReadOnlyWriteIgnored : Prop :=
  ∀ (s : State) (a : HostAddr) (off : BitVec 6) (v : Word) (rest : List HostOp),
    (off = 0x04 ∨ off = 0x08 ∨ off = 0x24) →
    s.nextAgent = .host → s.halted = false → s.env.todo = .write a .word v :: rest →
    a.offset? s.env.base = some off →
    ∃ sched drawNo, step s = .next { s with env := { s.env with todo := rest, sched := sched, drawNo := drawNo } }

/-- R27 to R30, R32, R67, R104, R254: a write to a staged register, also while BUSY = 1, makes it read as the value with its
reserved bits 0; every other register reads as before, and nothing but the staged registers, the host's place and the schedule
changes. -/
def Obligations.StagedWriteReadsBack : Prop :=
  ∀ (s : State) (a : HostAddr) (r : Reg) (off : BitVec 6) (mask v : Word) (rest : List HostOp),
    (r, off, mask) ∈ [(Reg.tickUs, 0x0C#6, 0x0000FFFF#32), (.sync, 0x10, 0xFFFFFFFF#32), (.zero, 0x14, 0xFFFFFFFF#32),
      (.one, 0x18, 0xFFFFFFFF#32), (.pflags, 0x1C, 0x00000001#32), (.code, 0x20, 0xFFFFFFFF#32)] →
    s.nextAgent = .host → s.halted = false → s.env.todo = .write a .word v :: rest →
    a.offset? s.env.base = some off →
    ∃ t sched drawNo, step s = .next t ∧ readReg r t = v &&& mask ∧ (∀ r', r' ≠ r → readReg r' t = readReg r' s) ∧
      t = { s with
        tickUs := t.tickUs, sync := t.sync, zero := t.zero, one := t.one, inv := t.inv, code := t.code
        env := { s.env with todo := rest, sched := sched, drawNo := drawNo } }

/-- R25: the layout of STATUS, its value after reset, that writes to it are ignored, and that a halted host cannot read it. -/
def Obligations.StatusWordLayout : Prop :=
  (∀ s : State,
    s.statusWord.getLsbD 0 = s.busy ∧ s.statusWord.getLsbD 1 = s.tickArmed ∧ s.statusWord.getLsbD 2 = s.tickFlag ∧
    s.statusWord.getLsbD 3 = s.configured ∧ s.statusWord.getLsbD 4 = s.actLvl ∧ s.statusWord.getLsbD 5 = s.dataOut ∧
    s.statusWord.getLsbD 6 = s.se ∧ s.statusWord.getLsbD 7 = s.wakeIe ∧ s.statusWord.extractLsb' 8 2 = s.pstate ∧
    s.statusWord.getLsbD 10 = (s.err != .noError) ∧ ∀ i, 11 ≤ i → s.statusWord.getLsbD i = false) ∧
  State.reset.statusWord = 0x00000010 ∧
  (∀ (v : Word) (s : State), writeReg .status v s = s) ∧
  (∀ s : State, s.halted = true → hostStep s = .next s)

/-- R46: PSTATE. -/
def Obligations.PowerStateRule : Prop :=
  (∀ s : State,
    (s.halted = true → s.pstate = 2) ∧
    (s.halted = false → s.se = true → s.pstate = 3) ∧
    (s.halted = false → s.se = false →
      (s.pstate = 1 ↔ s.pwr.lpcfg = true ∧ s.wakeIe = true ∧ s.tickArmed = false) ∧
      (s.pstate = 0 ↔ ¬(s.pwr.lpcfg = true ∧ s.wakeIe = true ∧ s.tickArmed = false)))) ∧
  State.reset.pstate = 0

/-! ### Configuration (40_config) -/

/-- R100: with a staged tick length that is not 0, CONFIGURE installs the staged protocol and computes the active level;
everything else, the pin among it, stays. -/
def Obligations.ConfigureInstalls : Prop :=
  ∀ s : State, s.tickUs ≠ 0#16 → exec .configure s = .next { s with
    active :=
      { tickUs := s.tickUs
        syncH := s.sync.extractLsb' 0 16, syncL := s.sync.extractLsb' 16 16
        zeroH := s.zero.extractLsb' 0 16, zeroL := s.zero.extractLsb' 16 16
        oneH := s.one.extractLsb' 0 16, oneL := s.one.extractLsb' 16 16
        inv := s.inv }
    actLvl := !s.inv
    configured := true }

/-- R100, R202: with a staged tick length of 0, CONFIGURE records BAD_TICK and changes nothing else. -/
def Obligations.ConfigureRejectsZeroTick : Prop :=
  ∀ s : State, s.tickUs = 0#16 → exec .configure s = .next { s with
    err := if s.err = .noError then .badTick else s.err
    ghost := { s.ghost with faultMark := s.ghost.faultMark || s.err == .noError } }

/-- R102: the level law of a successful CONFIGURE. -/
def Obligations.LevelLaw : Prop :=
  ∀ s : State, s.tickUs ≠ 0#16 →
    (∃ t, exec .configure s = .next t ∧ t.actLvl ≠ t.idleLvl ∧ t.actLvl = !s.inv) ∧
    ∃ t t', exec .configure { s with inv := false } = .next t ∧ exec .configure { s with inv := true } = .next t' ∧
      t'.actLvl = !t.actLvl ∧ t'.idleLvl = !t.idleLvl

/-- R103: two successful CONFIGUREs in a row leave the state of one, and so do two equal SET_REPEATs. -/
def Obligations.ConfigurationIdempotent : Prop :=
  (∀ s : State, s.tickUs ≠ 0#16 → ∃ t, exec .configure s = .next t ∧ exec .configure t = .next t) ∧
  (∀ (n : BitVec 16) (s : State), ∃ t, exec (.setrepeat n) s = .next t ∧ exec (.setrepeat n) t = .next t)

/-- R101: SET_REPEAT N sets the repeat count, which REPEAT then reads as; STATUS and everything else stay. -/
def Obligations.SetRepeatSets : Prop :=
  ∀ (n : BitVec 16) (s : State), ∃ t, exec (.setrepeat n) s = .next t ∧ t = { s with repeatN := n } ∧
    (readReg .repeatCount t).toNat = n.toNat ∧ t.statusWord = s.statusWord

/-! ### SEND and its program (41_transmit) -/

/-- R120: an accepted SEND starts the transmission; TICK_FLAG, DATA_OUT and everything not named stay. -/
def Obligations.SendStarts : Prop :=
  ∀ (s : State) (len : BitVec 6), len.toNat ≤ 32 → s.configured = true →
    isDegenerate s.active s.code len.toNat s.repeatN.toNat = false →
    exec (.send len) s = .next { s with
      seq := program s.active s.code len.toNat s.repeatN.toNat
      busy := true
      tickArmed := true
      ghost := { s.ghost with sends := s.ghost.sends + 1, tickNo := 0 } }

/-- R120, R203: BAD_LENGTH before NOT_CONFIGURED before DEGENERATE; nothing starts. -/
def Obligations.SendErrorsInOrder : Prop :=
  ∀ (s : State) (len : BitVec 6) (c : ErrCode),
    ((32 < len.toNat ∧ c = .badLength) ∨
      (len.toNat ≤ 32 ∧ s.configured = false ∧ c = .notConfigured) ∨
      (len.toNat ≤ 32 ∧ s.configured = true ∧ isDegenerate s.active s.code len.toNat s.repeatN.toNat = true ∧
        c = .degenerate)) →
    exec (.send len) s = .next { s with
      err := if s.err = .noError then c else s.err
      ghost := { s.ghost with faultMark := s.ghost.faultMark || s.err == .noError } }

/-- R125: which transmissions use a degenerate timing, and that SEND refuses one and starts nothing. -/
def Obligations.DegenerateExactly : Prop :=
  (∀ (p : Protocol) (c : Word) (l n : Nat), isDegenerate p c l n = true ↔
    1 ≤ n ∧ ((p.syncH = 0#16 ∧ p.syncL = 0#16) ∨
      (∃ i, i < l ∧ c.getLsbD i = true ∧ p.oneH = 0#16 ∧ p.oneL = 0#16) ∨
      (∃ i, i < l ∧ c.getLsbD i = false ∧ p.zeroH = 0#16 ∧ p.zeroL = 0#16))) ∧
  (∀ (s : State) (len : BitVec 6), len.toNat ≤ 32 → s.configured = true →
    isDegenerate s.active s.code len.toNat s.repeatN.toNat = true → exec (.send len) s = .next { s with
      err := if s.err = .noError then .degenerate else s.err
      ghost := { s.ghost with faultMark := s.ghost.faultMark || s.err == .noError } })

/-- R121, R122, R124: the pulse program as the rule writes it, with i running from L-1 down to 0; its length; exactly one
TRAIL, exactly one DISARM, and that last. -/
def Obligations.ProgramOfSend : Prop :=
  ∀ (p : Protocol) (c : Word) (l n : Nat),
    program p c l n =
      (List.replicate n
        (((List.range l).reverse.flatMap fun i =>
            if c.getLsbD i then
              List.replicate p.oneH.toNat (Elem.write .act) ++ List.replicate p.oneL.toNat (Elem.write .idl)
            else List.replicate p.zeroH.toNat (Elem.write .act) ++ List.replicate p.zeroL.toNat (Elem.write .idl)) ++
          (List.replicate p.syncH.toNat (Elem.write .act) ++ List.replicate p.syncL.toNat (Elem.write .idl)))).flatten ++
        [.write .trail, .disarm] ∧
    (program p c l n).length = n * frameTicks p c l + 2 ∧
    (program p c l n).count (.write .trail) = 1 ∧ (program p c l n).count .disarm = 1 ∧
    (program p c l n).getLast? = some .disarm

/-- R135: the closed form of F with p1 the number of 1 bits among the low L, and the bound of 39 bits on n·F + 1. -/
def Obligations.FrameTickCounts : Prop :=
  (∀ (p : Protocol) (c : Word) (l : Nat),
    let p1 := ((List.range l).filter fun i => c.getLsbD i).length
    frameTicks p c l =
      p1 * (p.oneH.toNat + p.oneL.toNat) + (l - p1) * (p.zeroH.toNat + p.zeroL.toNat) + (p.syncH.toNat + p.syncL.toNat)) ∧
  (∀ (p : Protocol) (c : Word) (l : Nat) (n : BitVec 16), l ≤ 32 → sendConsumes p c l n.toNat < 2 ^ 39)

/-- R133: bits L and above of the code do not change the program, nor whether it is refused; V is sent as V mod 2^L. -/
def Obligations.HighCodeBitsNotSent : Prop :=
  (∀ (p : Protocol) (c c' : Word) (l n : Nat), (∀ i, i < l → c.getLsbD i = c'.getLsbD i) →
    program p c l n = program p c' l n ∧ isDegenerate p c l n = isDegenerate p c' l n) ∧
  (∀ (p : Protocol) (c : Word) (l n : Nat), l ≤ 32 →
    program p c l n = program p (BitVec.ofNat 32 (c.toNat % 2 ^ l)) l n)

/-- R131, R132: with n = 0 the program is TRAIL and DISARM alone and any configured SEND of a legal length is accepted; with
L = 0 each frame is the sync pulse alone and the code is ignored. -/
def Obligations.ZeroRepeatsAndZeroLength : Prop :=
  (∀ (s : State) (len : BitVec 6), s.configured = true → len.toNat ≤ 32 → s.repeatN = 0#16 →
    ∃ t, exec (.send len) s = .next t ∧ t.seq = [.write .trail, .disarm] ∧ t.busy = true ∧ t.tickArmed = true ∧
      t.dataOut = s.dataOut) ∧
  (∀ (s : State), s.configured = true → isDegenerate s.active s.code 0 s.repeatN.toNat = false →
    ∃ t, exec (.send 0) s = .next t ∧
      t.seq = (List.replicate s.repeatN.toNat
        (List.replicate s.active.syncH.toNat (Elem.write .act) ++ List.replicate s.active.syncL.toNat (Elem.write .idl))).flatten
          ++ [.write .trail, .disarm])

/-- R129: started for a transmission that uses no degenerate timing, the counters emit exactly the program of R121, one
element per step, and are then finished. How the counters start, with n = 0 among it, is read from R121, R131 and R132 (log
entry 18). -/
def Obligations.CounterRealisationEmitsProgram : Prop :=
  ∀ (p : Protocol) (c : Word) (l n : Nat), isDegenerate p c l n = false →
    ∀ k, CounterPos.emitted p c l (sendConsumes p c l n + 1 + k) (counterStart p c l n) = program p c l n

/-! ### Engine steps and events (41_transmit, 60_exceptions, 70_reset) -/

/-- R126: a level unit waits for the tick flag, consumes it, and writes the active or the idle level. -/
def Obligations.LevelUnitStep : Prop :=
  ∀ (s : State) (k : Kind) (rest : List Elem), s.nextAgent = .engine → s.busy = true → s.seq = .write k :: rest →
    k ≠ .trail →
    (s.tickFlag = false → step s = .next s.afterPick) ∧
    (s.tickFlag = true → ∃ lvl, lvl = (if k = .act then s.actLvl else !s.actLvl) ∧
      step s = .next { s.afterPick with
        tickFlag := false
        dataOut := lvl
        ghost := { s.ghost with wave := s.ghost.wave ++ [⟨s.ghost.sends, s.ghost.tickNo, lvl, k⟩] }
        seq := rest })

/-- R127: the trailing tick forces the level that P_END_LEVEL names. -/
def Obligations.TrailingTickStep : Prop :=
  ∀ (s : State) (rest : List Elem), s.nextAgent = .engine → s.busy = true → s.seq = .write .trail :: rest →
    (s.tickFlag = false → step s = .next s.afterPick) ∧
    (s.tickFlag = true → ∃ lvl, lvl = (if s.env.endLevel = .idle then !s.actLvl else false) ∧
      step s = .next { s.afterPick with
        tickFlag := false
        dataOut := lvl
        ghost := { s.ghost with wave := s.ghost.wave ++ [⟨s.ghost.sends, s.ghost.tickNo, lvl, .trail⟩] }
        seq := rest })

/-- R128: DISARM needs no tick; the timer is disarmed, the transmission over, TICK_FLAG and DATA_OUT stay. -/
def Obligations.DisarmStep : Prop :=
  ∀ (s : State) (rest : List Elem), s.nextAgent = .engine → s.busy = true → s.seq = .disarm :: rest →
    step s = .next { s.afterPick with tickArmed := false, busy := false, seq := [] }

/-- R208: the TICK event, enabled while TICK_ARMED = 1; a tick that finds the flag set is lost and counted. A
TICK scheduled while TICK_ARMED = 0 changes nothing (the model's choice, log entry 3). -/
def Obligations.TickEventStep : Prop :=
  ∀ s : State, s.nextAgent = .tick →
    (s.tickArmed = false → step s = .next s.afterPick) ∧
    (s.tickArmed = true → step s = .next { s.afterPick with
      tickFlag := true
      ghost := { s.ghost with
        tickNo := s.ghost.tickNo + 1
        lost := s.ghost.lost + s.tickFlag.toNat } })

/-- R209: the EDGE event resumes a halted host when WAKE_IE = 1 and has no effect when WAKE_IE = 0; SE and WAKE_IE stay. -/
def Obligations.EdgeEventStep : Prop :=
  ∀ s : State, s.nextAgent = .edge →
    (s.wakeIe = true → step s = .next { s.afterPick with halted := false }) ∧
    (s.wakeIe = false → step s = .next s.afterPick)

/-- R219, R240, R242: a WDT reset, enabled while WDT_EN = 1: every register and internal element at its reset value, the
draws left open, the host at its program's entry, LOST, SENDS, WAVE and FAULT kept. That a watchdog resets is the spec's general
knowledge (log entry 10); a WDT scheduled while WDT_EN = 0 changes nothing (the model's choice, log entry 3). -/
def Obligations.WatchdogReset : Prop :=
  ∀ s : State, s.nextAgent = .wdt →
    (s.pwr.wdtEn = false → step s = .next s.afterPick) ∧
    (s.pwr.wdtEn = true → ∃ (active : Protocol) (pwr : Pwr) (env : Env), pwr.lpcfg = false ∧
      env.todo = s.env.program ∧ env.program = s.env.program ∧ env.base = s.env.base ∧ env.endLevel = s.env.endLevel ∧
      step s = .next
        { tickUs := 0, sync := 0, zero := 0, one := 0, inv := false, code := 0, repeatN := 1, err := .noError
          active := active, configured := false, actLvl := true, busy := false, seq := [], tickArmed := false
          tickFlag := false, dataOut := false, pwr := pwr, se := false, wakeIe := false, halted := false
          ghost := { s.ghost with tickNo := 0, resets := s.ghost.resets + 1 }
          env := env })

/-- R210: a TICK and an EDGE event, in either order of the schedule (log entry 2), give the same state. -/
def Obligations.TickAndEdgeCommute : Prop :=
  ∀ (s : State) (rest : List Agent),
    ∃ t, Host.Core.run core 2 { s with env := { s.env with sched := .tick :: .edge :: rest } } = .next t ∧
      Host.Core.run core 2 { s with env := { s.env with sched := .edge :: .tick :: rest } } = .next t

/-- R240, R25 to R46, RS-1: the POWER_ON reset values the spec gives (the draws of PWR and of the active protocol open). -/
def Obligations.ResetState : Prop :=
  State.reset.tickUs = 0 ∧ State.reset.sync = 0 ∧ State.reset.zero = 0 ∧ State.reset.one = 0 ∧ State.reset.inv = false ∧
  State.reset.code = 0 ∧ State.reset.repeatN = 1 ∧ State.reset.err = .noError ∧ State.reset.configured = false ∧
  State.reset.actLvl = true ∧ State.reset.busy = false ∧ State.reset.seq = [] ∧ State.reset.tickArmed = false ∧
  State.reset.tickFlag = false ∧ State.reset.dataOut = false ∧ State.reset.pwr.lpcfg = false ∧ State.reset.se = false ∧
  State.reset.wakeIe = false ∧ State.reset.halted = false ∧
  State.reset.ghost = { tickNo := 0, lost := 0, sends := 0, wave := [], faultMark := false, resets := 0 } ∧
  readReg .status State.reset = 0x00000010 ∧ readReg .repeatCount State.reset = 1 ∧
  State.reset.NoFault ∧ State.reset.IdleEngine ∧ State.reset.CleanFlag

/-! ### Power (42_power) -/

/-- R160: ENTER_LOW_POWER writes the seven PWR fields and nothing else. -/
def Obligations.LowPowerApplies : Prop :=
  ∀ s : State, ∃ t, exec .lowpower s = .next t ∧ t = { s with pwr := t.pwr } ∧
    t.pwr =
      { adcEn := false, acmpEn := false, wdtEn := false, pullupUnused := true
        uclkEn := false, sleepDeep := true, lpcfg := true } ∧
    (s.halted = false → s.se = false → s.tickArmed = false → t.pstate = if s.wakeIe then 1 else 0)

/-- R161: ARM_WAKE sets WAKE_IE and nothing else; PSTATE becomes POWERED_DOWN if LPCFG = 1 and SE = 0. -/
def Obligations.ArmWakeArms : Prop :=
  ∀ s : State, ∃ t, exec .armwake s = .next t ∧ t = { s with wakeIe := true } ∧
    (s.halted = false → s.se = false → s.tickArmed = false → s.pwr.lpcfg = true → t.pstate = 1)

/-- R162: SLEEP sets SE and halts the host whatever WAKE_IE is; PSTATE is SLEEPING; nothing else changes. -/
def Obligations.SleepHalts : Prop :=
  ∀ s : State, ∃ t, exec .sleep s = .next t ∧ t = { s with se := true, halted := true } ∧ t.pstate = 2

/-- R163: HALT halts the host while SE = 1 and is a no-op for a running host while SE = 0. -/
def Obligations.HaltHaltsWhileLatched : Prop :=
  ∀ s : State,
    (s.se = true → exec .halt s = .next { s with halted := true }) ∧
    (s.se = false → exec .halt s = .next s)

/-- R164: WAKE clears SE and nothing else; PSTATE of a running host is then POWERED_DOWN or ACTIVE. -/
def Obligations.WakeClearsLatch : Prop :=
  ∀ s : State, ∃ t, exec .wake s = .next t ∧ t = { s with se := false } ∧
    (s.halted = false → s.tickArmed = false → t.pstate = if s.pwr.lpcfg ∧ s.wakeIe then 1 else 0)

/-- R166: ENTER_LOW_POWER, ARM_WAKE and WAKE leave the same state twice as once; SLEEP and HALT halt again after a resume. -/
def Obligations.PowerCommandsIdempotent : Prop :=
  (∀ (i : Instr) (s : State), (i = .lowpower ∨ i = .armwake ∨ i = .wake) →
    ∃ t, exec i s = .next t ∧ exec i t = .next t) ∧
  (∀ (i : Instr) (s : State), (i = .sleep ∨ i = .halt) → s.se = true → s.wakeIe = true →
    ∃ t u, exec i s = .next t ∧ t.halted = true ∧ (edgeEvent t).halted = false ∧
      exec i (edgeEvent t) = .next u ∧ u.halted = true)

/-- R168: SLEEP, HALT and the resume change HALTED (SLEEP also SE) and keep every register and every other element. -/
def Obligations.StateSurvivesSleep : Prop :=
  ∀ (i : Instr) (s t : State), (i = .sleep ∨ i = .halt) → exec i s = .next t →
    edgeEvent t = { s with se := t.se, halted := (edgeEvent t).halted } ∧
    (∀ r, r ≠ .status → readReg r (edgeEvent t) = readReg r s) ∧ (i = .halt → t.se = s.se)

/-- R165: PSTATE along the boot-and-wake cycle of a fresh block: ACTIVE, ACTIVE after `lowpower`, POWERED_DOWN after
`armwake`, SLEEPING after `sleep`, WOKEN after the wake edge, POWERED_DOWN after `wake`. The program and the schedule are
loaded as data (log entries 1 and 2). -/
def Obligations.PowerStateCycle : Prop :=
  ∀ s : State, s.busy = false → s.tickArmed = false → s.halted = false → s.se = false → s.wakeIe = false →
    s.pwr.lpcfg = false → s.env.todo = [.cmd 0x80000000, .cmd 0x90000000, .cmd 0xA0000000, .cmd 0xC0000000] →
    s.env.sched = [.host, .host, .host, .edge, .host] →
    s.pstate = 0 ∧ ∃ t1 t2 t3 t4 t5,
      step s = .next t1 ∧ step t1 = .next t2 ∧ step t2 = .next t3 ∧ step t3 = .next t4 ∧ step t4 = .next t5 ∧
      t1.pstate = 0 ∧ t2.pstate = 1 ∧ t3.pstate = 2 ∧ t4.pstate = 3 ∧ t5.pstate = 1

/-! ### Rules over every step -/

/-- R41, R139: only an engine pin write changes DATA_OUT, to the level of its element, and only SEND, DISARM and a reset
change TICK_ARMED. -/
def Obligations.PinAndTimerOwnership : Prop :=
  ∀ s t : State, step s = .next t →
    (t.dataOut ≠ s.dataOut →
      (s.nextAgent = .engine ∧ s.busy = true ∧ s.tickFlag = true ∧
        ∃ k rest, s.seq = .write k :: rest ∧ t.dataOut = levelOf k s) ∨
      (s.nextAgent = .wdt ∧ s.pwr.wdtEn = true)) ∧
    (t.tickArmed ≠ s.tickArmed →
      (s.nextAgent = .host ∧ s.busy = false ∧ ∃ op rest len, s.env.todo = op :: rest ∧
        op.issues s.env.base (.send len) = true ∧ t.busy = true) ∨
      (s.nextAgent = .engine ∧ ∃ rest, s.seq = .disarm :: rest) ∨
      (s.nextAgent = .wdt ∧ s.pwr.wdtEn = true))

/-- R40, R74: only a TICK event sets TICK_FLAG; only an engine consume, which writes the pin in the same step, or a reset
clears it. -/
def Obligations.TickFlagWriters : Prop :=
  ∀ s t : State, step s = .next t →
    (s.tickFlag = false → t.tickFlag = true → s.nextAgent = .tick ∧ s.tickArmed = true) ∧
    (s.tickFlag = true → t.tickFlag = false →
      (s.nextAgent = .engine ∧ s.busy = true ∧ (∃ k, s.seq = .write k :: t.seq ∧
        t.ghost.wave = s.ghost.wave ++ [⟨s.ghost.sends, s.ghost.tickNo, t.dataOut, k⟩])) ∨
      (s.nextAgent = .wdt ∧ s.pwr.wdtEn = true))

/-- R26, R202, R204: only a host operation records an error; a recorded error is never replaced, and only a reset clears it;
FAULT is never cleared. -/
def Obligations.ErrorRegisterWriters : Prop :=
  ∀ s t : State, step s = .next t →
    (t.err ≠ s.err → (s.err = .noError ∧ s.nextAgent = .host ∧ t.ghost.faultMark = true) ∨
      (t.err = .noError ∧ s.nextAgent = .wdt ∧ s.pwr.wdtEn = true)) ∧
    (s.ghost.faultMark = true → t.ghost.faultMark = true)

/-- R221: the only events that end SLEEPING are an EDGE with WAKE_IE = 1 and a reset. -/
def Obligations.OnlyEdgeOrResetEndsSleep : Prop :=
  ∀ s t : State, s.halted = true → step s = .next t → t.halted = false →
    (s.nextAgent = .edge ∧ s.wakeIe = true) ∨ (s.nextAgent = .wdt ∧ s.pwr.wdtEn = true)

/-- R44, R167, R251: once SLEEP, or HALT with SE = 1, runs with WAKE_IE = 0, the host stays halted before the same operation
until a reset. -/
def Obligations.UnarmedSleepNeverEnds : Prop :=
  ∀ (i : Instr) (s t u : State), (i = .sleep ∨ (i = .halt ∧ s.se = true)) → s.wakeIe = false → exec i s = .next t →
    Reaches t u → u.ghost.resets = t.ghost.resets →
    u.halted = true ∧ u.wakeIe = false ∧ u.env.todo = t.env.todo ∧ u.env.reads = t.env.reads ∧ u.err = t.err

/-- R137, R256: with a pin write waiting and no tick flag, a transmission makes no progress while no TICK event and no reset
happens: BUSY stays 1, nothing is written, and no error is recorded by the engine. -/
def Obligations.TransmissionWithoutTicksHolds : Prop :=
  ∀ (s t : State) (k : Kind) (rest : List Elem), s.busy = true → s.seq = .write k :: rest → s.tickFlag = false →
    Reaches s t → t.ghost.tickNo = s.ghost.tickNo → t.ghost.resets = s.ghost.resets → t.ghost.sends = s.ghost.sends →
    t.busy = true ∧ t.seq = s.seq ∧ t.tickFlag = false ∧ t.dataOut = s.dataOut ∧ t.ghost.wave = s.ghost.wave

/-- R38, R138: while BUSY = 1, a step of any agent but the engine and the watchdog leaves the transmission as it is. -/
def Obligations.NoCancellation : Prop :=
  ∀ s t : State, s.busy = true → step s = .next t → s.nextAgent ≠ .engine →
    (s.nextAgent = .wdt → s.pwr.wdtEn = false) →
    t.busy = true ∧ t.seq = s.seq ∧ t.tickArmed = s.tickArmed ∧ t.active = s.active ∧ t.configured = s.configured ∧
    t.actLvl = s.actLvl ∧ t.dataOut = s.dataOut ∧ t.ghost.wave = s.ghost.wave ∧ t.ghost.sends = s.ghost.sends ∧
    t.repeatN = s.repeatN

/-- R74, R126, R127, R208: ticks are accounted for exactly. Over a step that neither starts a send nor resets the block,
every tick is consumed, lost, or still in the flag. -/
def Obligations.TickAccounting : Prop :=
  ∀ s t : State, step s = .next t → t.ghost.sends = s.ghost.sends → t.ghost.resets = s.ghost.resets →
    t.ghost.tickNo + s.ghost.wave.length + s.ghost.lost + s.tickFlag.toNat =
      s.ghost.tickNo + t.ghost.wave.length + t.ghost.lost + t.tickFlag.toNat

/-- R48 items 1 to 5, with the shape of SEQ: an invariant every step keeps. With it the tick count of item 6 while a
transmission is in progress (log entry 12), and FAULT wherever an error stands (R204). -/
def Obligations.InvariantKeptByEveryStep : Prop :=
  ∀ s t : State, step s = .next t →
    (s.Inv → t.Inv) ∧ (s.TickInv → t.TickInv) ∧ (s.ErrInv → t.ErrInv)

/-- The invariants hold after reset. -/
def Obligations.InvariantHoldsAtReset : Prop :=
  State.reset.Inv ∧ State.reset.TickInv ∧ State.reset.ErrInv ∧ State.reset.PwrInv

/-- R42, R160, R219, RS-4: that LPCFG = 1 means PWR is what ENTER_LOW_POWER writes is kept by every step; and from a state
with LPCFG = 1 where it holds, LPCFG stays 1 and no WDT reset happens for the rest of the run. -/
def Obligations.LowPowerConfigEndsResets : Prop :=
  (∀ s t : State, s.PwrInv → step s = .next t → t.PwrInv) ∧
  (∀ s t : State, s.PwrInv → s.pwr.lpcfg = true → Reaches s t →
    t.LowPowerCfg ∧ t.ghost.resets = s.ghost.resets)

/-! ### The waveform (41_transmit section 4) -/

/-- R248: with the tick flag already set, the first unit of a SEND fires with no fresh tick: its record has tick 0. -/
def Obligations.StaleFlagFiresFirstUnit : Prop :=
  ∀ (s t : State) (len : BitVec 6) (agents : List Agent), exec (.send len) s = .next t → s.busy = false →
    t.busy = true → s.tickFlag = true →
    ∃ k u, t.seq.head? = some (.write k) ∧
      step { t with env := { t.env with sched := .engine :: agents } } = .next u ∧
      u.ghost.wave = s.ghost.wave ++ [⟨t.ghost.sends, 0, levelOf k s, k⟩] ∧ u.tickFlag = false

/-- R130: tick exactness. From a SEND with the flag clear, along any run with no lost tick, no reset and no later SEND, the
j-th consume is of the program's j-th pin write, at tick j, and the pin holds its level; when the engine is done, all N
consumes have happened. -/
def Obligations.TickExactness : Prop :=
  ∀ (s t u : State) (len : BitVec 6), s.busy = false → s.tickFlag = false → exec (.send len) s = .next t → t.busy = true →
    Reaches t u → NoLoss t u → u.ghost.resets = t.ghost.resets → u.ghost.sends = t.ghost.sends →
    ∃ m, m ≤ sendConsumes s.active s.code len.toNat s.repeatN.toNat ∧
      u.ghost.wave = s.ghost.wave ++ (sendRecords s len.toNat).take m ∧
      u.ghost.tickNo = m + u.tickFlag.toNat ∧
      u.dataOut = (((sendRecords s len.toNat).take m).getLast?.map (·.level)).getD s.dataOut ∧
      (u.busy = true → u.seq = (program s.active s.code len.toNat s.repeatN.toNat).drop m) ∧
      (u.busy = false → m = sendConsumes s.active s.code len.toNat s.repeatN.toNat)

/-- R120, R126 to R128, R130, R208: under the ideal schedule (95_test_vectors) an accepted SEND completes: it makes exactly the
records of R130, in N ticks and 2N + 1 steps, and leaves the engine idle; the registers, the power state and LOST stay. The
schedule is data (log entry 2). -/
def Obligations.IdealScheduleCompletesSend : Prop :=
  ∀ (s t : State) (len : BitVec 6) (agents : List Agent), s.tickFlag = false → exec (.send len) s = .next t →
    t.busy = true → s.busy = false →
    ∃ n lvl, n = sendConsumes s.active s.code len.toNat s.repeatN.toNat ∧ lvl = levelOf .trail s ∧
      Host.Core.run core (2 * n + 1) { t with env := { t.env with sched := idealSchedule n ++ agents } } = .next { s with
        seq := [], busy := false, tickArmed := false, tickFlag := false, dataOut := lvl
        ghost := { s.ghost with
          sends := s.ghost.sends + 1
          tickNo := n
          wave := s.ghost.wave ++ sendRecords s len.toNat }
        env := { s.env with sched := agents } }

/-- R136: the inversion law. From two states whose active protocols differ only in A_INV, SEND starts the same program or
records the same error in both; and while a transmission is in progress they take, under the same schedule, steps to two such
states again: the same ticks and kinds, complementary levels (but a TRAIL under P_END_LEVEL = LOW). -/
def Obligations.InversionLaw : Prop :=
  (∀ (w w' : List WaveRec) (s s' t : State) (len : BitVec 6), InvertedPair w w' s s' → exec (.send len) s = .next t →
    ∃ t', exec (.send len) s' = .next t' ∧ InvertedPair w w' t t') ∧
  (∀ (w w' : List WaveRec) (s s' t : State), InvertedPair w w' s s' → s.busy = true →
    (s.nextAgent = .wdt → s.pwr.wdtEn = false) → step s = .next t →
    ∃ t', step s' = .next t' ∧ InvertedPair w w' t t')
end

