-- ==== Sys2Proof/Laws/State.lean ====
section
/-! SUPPORT. One lemma per field and update of the state, so that no proof unfolds a record update. -/

namespace Sys2Proof.Machine

/-! ### raiseErr -/

@[simp] theorem raiseErr_tickUs (c : ErrCode) (s : State) : (raiseErr c s).tickUs = s.tickUs := rfl
@[simp] theorem raiseErr_sync (c : ErrCode) (s : State) : (raiseErr c s).sync = s.sync := rfl
@[simp] theorem raiseErr_zero (c : ErrCode) (s : State) : (raiseErr c s).zero = s.zero := rfl
@[simp] theorem raiseErr_one (c : ErrCode) (s : State) : (raiseErr c s).one = s.one := rfl
@[simp] theorem raiseErr_inv (c : ErrCode) (s : State) : (raiseErr c s).inv = s.inv := rfl
@[simp] theorem raiseErr_code (c : ErrCode) (s : State) : (raiseErr c s).code = s.code := rfl
@[simp] theorem raiseErr_repeatN (c : ErrCode) (s : State) : (raiseErr c s).repeatN = s.repeatN := rfl
@[simp] theorem raiseErr_err (c : ErrCode) (s : State) : (raiseErr c s).err = if s.err = .noError then c else s.err := rfl
@[simp] theorem raiseErr_active (c : ErrCode) (s : State) : (raiseErr c s).active = s.active := rfl
@[simp] theorem raiseErr_configured (c : ErrCode) (s : State) : (raiseErr c s).configured = s.configured := rfl
@[simp] theorem raiseErr_actLvl (c : ErrCode) (s : State) : (raiseErr c s).actLvl = s.actLvl := rfl
@[simp] theorem raiseErr_busy (c : ErrCode) (s : State) : (raiseErr c s).busy = s.busy := rfl
@[simp] theorem raiseErr_seq (c : ErrCode) (s : State) : (raiseErr c s).seq = s.seq := rfl
@[simp] theorem raiseErr_tickArmed (c : ErrCode) (s : State) : (raiseErr c s).tickArmed = s.tickArmed := rfl
@[simp] theorem raiseErr_tickFlag (c : ErrCode) (s : State) : (raiseErr c s).tickFlag = s.tickFlag := rfl
@[simp] theorem raiseErr_dataOut (c : ErrCode) (s : State) : (raiseErr c s).dataOut = s.dataOut := rfl
@[simp] theorem raiseErr_pwr (c : ErrCode) (s : State) : (raiseErr c s).pwr = s.pwr := rfl
@[simp] theorem raiseErr_se (c : ErrCode) (s : State) : (raiseErr c s).se = s.se := rfl
@[simp] theorem raiseErr_wakeIe (c : ErrCode) (s : State) : (raiseErr c s).wakeIe = s.wakeIe := rfl
@[simp] theorem raiseErr_halted (c : ErrCode) (s : State) : (raiseErr c s).halted = s.halted := rfl
@[simp] theorem raiseErr_ghost_tickNo (c : ErrCode) (s : State) : (raiseErr c s).ghost.tickNo = s.ghost.tickNo := rfl
@[simp] theorem raiseErr_ghost_lost (c : ErrCode) (s : State) : (raiseErr c s).ghost.lost = s.ghost.lost := rfl
@[simp] theorem raiseErr_ghost_sends (c : ErrCode) (s : State) : (raiseErr c s).ghost.sends = s.ghost.sends := rfl
@[simp] theorem raiseErr_ghost_wave (c : ErrCode) (s : State) : (raiseErr c s).ghost.wave = s.ghost.wave := rfl
@[simp] theorem raiseErr_ghost_faultMark (c : ErrCode) (s : State) : (raiseErr c s).ghost.faultMark = (s.ghost.faultMark || decide (s.err = .noError)) := rfl
@[simp] theorem raiseErr_ghost_resets (c : ErrCode) (s : State) : (raiseErr c s).ghost.resets = s.ghost.resets := rfl
@[simp] theorem raiseErr_env (c : ErrCode) (s : State) : (raiseErr c s).env = s.env := rfl

/-! ### advance -/

@[simp] theorem advance_tickUs (rest : List HostOp) (s : State) : (s.advance rest).tickUs = s.tickUs := rfl
@[simp] theorem advance_sync (rest : List HostOp) (s : State) : (s.advance rest).sync = s.sync := rfl
@[simp] theorem advance_zero (rest : List HostOp) (s : State) : (s.advance rest).zero = s.zero := rfl
@[simp] theorem advance_one (rest : List HostOp) (s : State) : (s.advance rest).one = s.one := rfl
@[simp] theorem advance_inv (rest : List HostOp) (s : State) : (s.advance rest).inv = s.inv := rfl
@[simp] theorem advance_code (rest : List HostOp) (s : State) : (s.advance rest).code = s.code := rfl
@[simp] theorem advance_repeatN (rest : List HostOp) (s : State) : (s.advance rest).repeatN = s.repeatN := rfl
@[simp] theorem advance_err (rest : List HostOp) (s : State) : (s.advance rest).err = s.err := rfl
@[simp] theorem advance_active (rest : List HostOp) (s : State) : (s.advance rest).active = s.active := rfl
@[simp] theorem advance_configured (rest : List HostOp) (s : State) : (s.advance rest).configured = s.configured := rfl
@[simp] theorem advance_actLvl (rest : List HostOp) (s : State) : (s.advance rest).actLvl = s.actLvl := rfl
@[simp] theorem advance_busy (rest : List HostOp) (s : State) : (s.advance rest).busy = s.busy := rfl
@[simp] theorem advance_seq (rest : List HostOp) (s : State) : (s.advance rest).seq = s.seq := rfl
@[simp] theorem advance_tickArmed (rest : List HostOp) (s : State) : (s.advance rest).tickArmed = s.tickArmed := rfl
@[simp] theorem advance_tickFlag (rest : List HostOp) (s : State) : (s.advance rest).tickFlag = s.tickFlag := rfl
@[simp] theorem advance_dataOut (rest : List HostOp) (s : State) : (s.advance rest).dataOut = s.dataOut := rfl
@[simp] theorem advance_pwr (rest : List HostOp) (s : State) : (s.advance rest).pwr = s.pwr := rfl
@[simp] theorem advance_se (rest : List HostOp) (s : State) : (s.advance rest).se = s.se := rfl
@[simp] theorem advance_wakeIe (rest : List HostOp) (s : State) : (s.advance rest).wakeIe = s.wakeIe := rfl
@[simp] theorem advance_halted (rest : List HostOp) (s : State) : (s.advance rest).halted = s.halted := rfl
@[simp] theorem advance_ghost (rest : List HostOp) (s : State) : (s.advance rest).ghost = s.ghost := rfl
@[simp] theorem advance_env_base (rest : List HostOp) (s : State) : (s.advance rest).env.base = s.env.base := rfl
@[simp] theorem advance_env_endLevel (rest : List HostOp) (s : State) : (s.advance rest).env.endLevel = s.env.endLevel := rfl
@[simp] theorem advance_env_program (rest : List HostOp) (s : State) : (s.advance rest).env.program = s.env.program := rfl
@[simp] theorem advance_env_todo (rest : List HostOp) (s : State) : (s.advance rest).env.todo = rest := rfl
@[simp] theorem advance_env_reads (rest : List HostOp) (s : State) : (s.advance rest).env.reads = s.env.reads := rfl
@[simp] theorem advance_env_sched (rest : List HostOp) (s : State) : (s.advance rest).env.sched = s.env.sched := rfl
@[simp] theorem advance_env_drawNo (rest : List HostOp) (s : State) : (s.advance rest).env.drawNo = s.env.drawNo := rfl

/-! ### recordRead -/

@[simp] theorem recordRead_tickUs (v : Word) (s : State) : (s.recordRead v).tickUs = s.tickUs := rfl
@[simp] theorem recordRead_sync (v : Word) (s : State) : (s.recordRead v).sync = s.sync := rfl
@[simp] theorem recordRead_zero (v : Word) (s : State) : (s.recordRead v).zero = s.zero := rfl
@[simp] theorem recordRead_one (v : Word) (s : State) : (s.recordRead v).one = s.one := rfl
@[simp] theorem recordRead_inv (v : Word) (s : State) : (s.recordRead v).inv = s.inv := rfl
@[simp] theorem recordRead_code (v : Word) (s : State) : (s.recordRead v).code = s.code := rfl
@[simp] theorem recordRead_repeatN (v : Word) (s : State) : (s.recordRead v).repeatN = s.repeatN := rfl
@[simp] theorem recordRead_err (v : Word) (s : State) : (s.recordRead v).err = s.err := rfl
@[simp] theorem recordRead_active (v : Word) (s : State) : (s.recordRead v).active = s.active := rfl
@[simp] theorem recordRead_configured (v : Word) (s : State) : (s.recordRead v).configured = s.configured := rfl
@[simp] theorem recordRead_actLvl (v : Word) (s : State) : (s.recordRead v).actLvl = s.actLvl := rfl
@[simp] theorem recordRead_busy (v : Word) (s : State) : (s.recordRead v).busy = s.busy := rfl
@[simp] theorem recordRead_seq (v : Word) (s : State) : (s.recordRead v).seq = s.seq := rfl
@[simp] theorem recordRead_tickArmed (v : Word) (s : State) : (s.recordRead v).tickArmed = s.tickArmed := rfl
@[simp] theorem recordRead_tickFlag (v : Word) (s : State) : (s.recordRead v).tickFlag = s.tickFlag := rfl
@[simp] theorem recordRead_dataOut (v : Word) (s : State) : (s.recordRead v).dataOut = s.dataOut := rfl
@[simp] theorem recordRead_pwr (v : Word) (s : State) : (s.recordRead v).pwr = s.pwr := rfl
@[simp] theorem recordRead_se (v : Word) (s : State) : (s.recordRead v).se = s.se := rfl
@[simp] theorem recordRead_wakeIe (v : Word) (s : State) : (s.recordRead v).wakeIe = s.wakeIe := rfl
@[simp] theorem recordRead_halted (v : Word) (s : State) : (s.recordRead v).halted = s.halted := rfl
@[simp] theorem recordRead_ghost (v : Word) (s : State) : (s.recordRead v).ghost = s.ghost := rfl
@[simp] theorem recordRead_env_base (v : Word) (s : State) : (s.recordRead v).env.base = s.env.base := rfl
@[simp] theorem recordRead_env_endLevel (v : Word) (s : State) : (s.recordRead v).env.endLevel = s.env.endLevel := rfl
@[simp] theorem recordRead_env_program (v : Word) (s : State) : (s.recordRead v).env.program = s.env.program := rfl
@[simp] theorem recordRead_env_todo (v : Word) (s : State) : (s.recordRead v).env.todo = s.env.todo := rfl
@[simp] theorem recordRead_env_reads (v : Word) (s : State) : (s.recordRead v).env.reads = s.env.reads ++ [v] := rfl
@[simp] theorem recordRead_env_sched (v : Word) (s : State) : (s.recordRead v).env.sched = s.env.sched := rfl
@[simp] theorem recordRead_env_drawNo (v : Word) (s : State) : (s.recordRead v).env.drawNo = s.env.drawNo := rfl

/-! ### load -/

@[simp] theorem load_tickUs (prog : List HostOp) (sched : List Agent) (s : State) : (s.load prog sched).tickUs = s.tickUs := rfl
@[simp] theorem load_sync (prog : List HostOp) (sched : List Agent) (s : State) : (s.load prog sched).sync = s.sync := rfl
@[simp] theorem load_zero (prog : List HostOp) (sched : List Agent) (s : State) : (s.load prog sched).zero = s.zero := rfl
@[simp] theorem load_one (prog : List HostOp) (sched : List Agent) (s : State) : (s.load prog sched).one = s.one := rfl
@[simp] theorem load_inv (prog : List HostOp) (sched : List Agent) (s : State) : (s.load prog sched).inv = s.inv := rfl
@[simp] theorem load_code (prog : List HostOp) (sched : List Agent) (s : State) : (s.load prog sched).code = s.code := rfl
@[simp] theorem load_repeatN (prog : List HostOp) (sched : List Agent) (s : State) : (s.load prog sched).repeatN = s.repeatN := rfl
@[simp] theorem load_err (prog : List HostOp) (sched : List Agent) (s : State) : (s.load prog sched).err = s.err := rfl
@[simp] theorem load_active (prog : List HostOp) (sched : List Agent) (s : State) : (s.load prog sched).active = s.active := rfl
@[simp] theorem load_configured (prog : List HostOp) (sched : List Agent) (s : State) : (s.load prog sched).configured = s.configured := rfl
@[simp] theorem load_actLvl (prog : List HostOp) (sched : List Agent) (s : State) : (s.load prog sched).actLvl = s.actLvl := rfl
@[simp] theorem load_busy (prog : List HostOp) (sched : List Agent) (s : State) : (s.load prog sched).busy = s.busy := rfl
@[simp] theorem load_seq (prog : List HostOp) (sched : List Agent) (s : State) : (s.load prog sched).seq = s.seq := rfl
@[simp] theorem load_tickArmed (prog : List HostOp) (sched : List Agent) (s : State) : (s.load prog sched).tickArmed = s.tickArmed := rfl
@[simp] theorem load_tickFlag (prog : List HostOp) (sched : List Agent) (s : State) : (s.load prog sched).tickFlag = s.tickFlag := rfl
@[simp] theorem load_dataOut (prog : List HostOp) (sched : List Agent) (s : State) : (s.load prog sched).dataOut = s.dataOut := rfl
@[simp] theorem load_pwr (prog : List HostOp) (sched : List Agent) (s : State) : (s.load prog sched).pwr = s.pwr := rfl
@[simp] theorem load_se (prog : List HostOp) (sched : List Agent) (s : State) : (s.load prog sched).se = s.se := rfl
@[simp] theorem load_wakeIe (prog : List HostOp) (sched : List Agent) (s : State) : (s.load prog sched).wakeIe = s.wakeIe := rfl
@[simp] theorem load_halted (prog : List HostOp) (sched : List Agent) (s : State) : (s.load prog sched).halted = s.halted := rfl
@[simp] theorem load_ghost (prog : List HostOp) (sched : List Agent) (s : State) : (s.load prog sched).ghost = s.ghost := rfl
@[simp] theorem load_env_base (prog : List HostOp) (sched : List Agent) (s : State) : (s.load prog sched).env.base = s.env.base := rfl
@[simp] theorem load_env_endLevel (prog : List HostOp) (sched : List Agent) (s : State) : (s.load prog sched).env.endLevel = s.env.endLevel := rfl
@[simp] theorem load_env_program (prog : List HostOp) (sched : List Agent) (s : State) : (s.load prog sched).env.program = prog := rfl
@[simp] theorem load_env_todo (prog : List HostOp) (sched : List Agent) (s : State) : (s.load prog sched).env.todo = prog := rfl
@[simp] theorem load_env_reads (prog : List HostOp) (sched : List Agent) (s : State) : (s.load prog sched).env.reads = s.env.reads := rfl
@[simp] theorem load_env_sched (prog : List HostOp) (sched : List Agent) (s : State) : (s.load prog sched).env.sched = sched := rfl
@[simp] theorem load_env_drawNo (prog : List HostOp) (sched : List Agent) (s : State) : (s.load prog sched).env.drawNo = s.env.drawNo := rfl

/-! ### latchProtocol -/

@[simp] theorem latchProtocol_tickUs (s : State) : (latchProtocol s).tickUs = s.tickUs := rfl
@[simp] theorem latchProtocol_sync (s : State) : (latchProtocol s).sync = s.sync := rfl
@[simp] theorem latchProtocol_zero (s : State) : (latchProtocol s).zero = s.zero := rfl
@[simp] theorem latchProtocol_one (s : State) : (latchProtocol s).one = s.one := rfl
@[simp] theorem latchProtocol_inv (s : State) : (latchProtocol s).inv = s.inv := rfl
@[simp] theorem latchProtocol_code (s : State) : (latchProtocol s).code = s.code := rfl
@[simp] theorem latchProtocol_repeatN (s : State) : (latchProtocol s).repeatN = s.repeatN := rfl
@[simp] theorem latchProtocol_err (s : State) : (latchProtocol s).err = s.err := rfl
@[simp] theorem latchProtocol_active (s : State) : (latchProtocol s).active = s.staged := rfl
@[simp] theorem latchProtocol_configured (s : State) : (latchProtocol s).configured = true := rfl
@[simp] theorem latchProtocol_actLvl (s : State) : (latchProtocol s).actLvl = !s.inv := rfl
@[simp] theorem latchProtocol_busy (s : State) : (latchProtocol s).busy = s.busy := rfl
@[simp] theorem latchProtocol_seq (s : State) : (latchProtocol s).seq = s.seq := rfl
@[simp] theorem latchProtocol_tickArmed (s : State) : (latchProtocol s).tickArmed = s.tickArmed := rfl
@[simp] theorem latchProtocol_tickFlag (s : State) : (latchProtocol s).tickFlag = s.tickFlag := rfl
@[simp] theorem latchProtocol_dataOut (s : State) : (latchProtocol s).dataOut = s.dataOut := rfl
@[simp] theorem latchProtocol_pwr (s : State) : (latchProtocol s).pwr = s.pwr := rfl
@[simp] theorem latchProtocol_se (s : State) : (latchProtocol s).se = s.se := rfl
@[simp] theorem latchProtocol_wakeIe (s : State) : (latchProtocol s).wakeIe = s.wakeIe := rfl
@[simp] theorem latchProtocol_halted (s : State) : (latchProtocol s).halted = s.halted := rfl
@[simp] theorem latchProtocol_ghost (s : State) : (latchProtocol s).ghost = s.ghost := rfl
@[simp] theorem latchProtocol_env (s : State) : (latchProtocol s).env = s.env := rfl

/-! ### startSend -/

@[simp] theorem startSend_tickUs (us : List Elem) (s : State) : (startSend us s).tickUs = s.tickUs := rfl
@[simp] theorem startSend_sync (us : List Elem) (s : State) : (startSend us s).sync = s.sync := rfl
@[simp] theorem startSend_zero (us : List Elem) (s : State) : (startSend us s).zero = s.zero := rfl
@[simp] theorem startSend_one (us : List Elem) (s : State) : (startSend us s).one = s.one := rfl
@[simp] theorem startSend_inv (us : List Elem) (s : State) : (startSend us s).inv = s.inv := rfl
@[simp] theorem startSend_code (us : List Elem) (s : State) : (startSend us s).code = s.code := rfl
@[simp] theorem startSend_repeatN (us : List Elem) (s : State) : (startSend us s).repeatN = s.repeatN := rfl
@[simp] theorem startSend_err (us : List Elem) (s : State) : (startSend us s).err = s.err := rfl
@[simp] theorem startSend_active (us : List Elem) (s : State) : (startSend us s).active = s.active := rfl
@[simp] theorem startSend_configured (us : List Elem) (s : State) : (startSend us s).configured = s.configured := rfl
@[simp] theorem startSend_actLvl (us : List Elem) (s : State) : (startSend us s).actLvl = s.actLvl := rfl
@[simp] theorem startSend_busy (us : List Elem) (s : State) : (startSend us s).busy = true := rfl
@[simp] theorem startSend_seq (us : List Elem) (s : State) : (startSend us s).seq = us := rfl
@[simp] theorem startSend_tickArmed (us : List Elem) (s : State) : (startSend us s).tickArmed = true := rfl
@[simp] theorem startSend_tickFlag (us : List Elem) (s : State) : (startSend us s).tickFlag = s.tickFlag := rfl
@[simp] theorem startSend_dataOut (us : List Elem) (s : State) : (startSend us s).dataOut = s.dataOut := rfl
@[simp] theorem startSend_pwr (us : List Elem) (s : State) : (startSend us s).pwr = s.pwr := rfl
@[simp] theorem startSend_se (us : List Elem) (s : State) : (startSend us s).se = s.se := rfl
@[simp] theorem startSend_wakeIe (us : List Elem) (s : State) : (startSend us s).wakeIe = s.wakeIe := rfl
@[simp] theorem startSend_halted (us : List Elem) (s : State) : (startSend us s).halted = s.halted := rfl
@[simp] theorem startSend_ghost_tickNo (us : List Elem) (s : State) : (startSend us s).ghost.tickNo = 0 := rfl
@[simp] theorem startSend_ghost_lost (us : List Elem) (s : State) : (startSend us s).ghost.lost = s.ghost.lost := rfl
@[simp] theorem startSend_ghost_sends (us : List Elem) (s : State) : (startSend us s).ghost.sends = s.ghost.sends + 1 := rfl
@[simp] theorem startSend_ghost_wave (us : List Elem) (s : State) : (startSend us s).ghost.wave = s.ghost.wave := rfl
@[simp] theorem startSend_ghost_faultMark (us : List Elem) (s : State) : (startSend us s).ghost.faultMark = s.ghost.faultMark := rfl
@[simp] theorem startSend_ghost_resets (us : List Elem) (s : State) : (startSend us s).ghost.resets = s.ghost.resets := rfl
@[simp] theorem startSend_env (us : List Elem) (s : State) : (startSend us s).env = s.env := rfl

/-! ### consume -/

@[simp] theorem consume_tickUs (k : Kind) (rest : List Elem) (s : State) : (consume k rest s).tickUs = s.tickUs := rfl
@[simp] theorem consume_sync (k : Kind) (rest : List Elem) (s : State) : (consume k rest s).sync = s.sync := rfl
@[simp] theorem consume_zero (k : Kind) (rest : List Elem) (s : State) : (consume k rest s).zero = s.zero := rfl
@[simp] theorem consume_one (k : Kind) (rest : List Elem) (s : State) : (consume k rest s).one = s.one := rfl
@[simp] theorem consume_inv (k : Kind) (rest : List Elem) (s : State) : (consume k rest s).inv = s.inv := rfl
@[simp] theorem consume_code (k : Kind) (rest : List Elem) (s : State) : (consume k rest s).code = s.code := rfl
@[simp] theorem consume_repeatN (k : Kind) (rest : List Elem) (s : State) : (consume k rest s).repeatN = s.repeatN := rfl
@[simp] theorem consume_err (k : Kind) (rest : List Elem) (s : State) : (consume k rest s).err = s.err := rfl
@[simp] theorem consume_active (k : Kind) (rest : List Elem) (s : State) : (consume k rest s).active = s.active := rfl
@[simp] theorem consume_configured (k : Kind) (rest : List Elem) (s : State) : (consume k rest s).configured = s.configured := rfl
@[simp] theorem consume_actLvl (k : Kind) (rest : List Elem) (s : State) : (consume k rest s).actLvl = s.actLvl := rfl
@[simp] theorem consume_busy (k : Kind) (rest : List Elem) (s : State) : (consume k rest s).busy = s.busy := rfl
@[simp] theorem consume_seq (k : Kind) (rest : List Elem) (s : State) : (consume k rest s).seq = rest := rfl
@[simp] theorem consume_tickArmed (k : Kind) (rest : List Elem) (s : State) : (consume k rest s).tickArmed = s.tickArmed := rfl
@[simp] theorem consume_tickFlag (k : Kind) (rest : List Elem) (s : State) : (consume k rest s).tickFlag = false := rfl
@[simp] theorem consume_dataOut (k : Kind) (rest : List Elem) (s : State) : (consume k rest s).dataOut = levelOf k s := rfl
@[simp] theorem consume_pwr (k : Kind) (rest : List Elem) (s : State) : (consume k rest s).pwr = s.pwr := rfl
@[simp] theorem consume_se (k : Kind) (rest : List Elem) (s : State) : (consume k rest s).se = s.se := rfl
@[simp] theorem consume_wakeIe (k : Kind) (rest : List Elem) (s : State) : (consume k rest s).wakeIe = s.wakeIe := rfl
@[simp] theorem consume_halted (k : Kind) (rest : List Elem) (s : State) : (consume k rest s).halted = s.halted := rfl
@[simp] theorem consume_ghost_tickNo (k : Kind) (rest : List Elem) (s : State) : (consume k rest s).ghost.tickNo = s.ghost.tickNo := rfl
@[simp] theorem consume_ghost_lost (k : Kind) (rest : List Elem) (s : State) : (consume k rest s).ghost.lost = s.ghost.lost := rfl
@[simp] theorem consume_ghost_sends (k : Kind) (rest : List Elem) (s : State) : (consume k rest s).ghost.sends = s.ghost.sends := rfl
@[simp] theorem consume_ghost_wave (k : Kind) (rest : List Elem) (s : State) : (consume k rest s).ghost.wave = s.ghost.wave ++
      [{ send := s.ghost.sends, tick := s.ghost.tickNo, level := levelOf k s, kind := k }] := rfl
@[simp] theorem consume_ghost_faultMark (k : Kind) (rest : List Elem) (s : State) : (consume k rest s).ghost.faultMark = s.ghost.faultMark := rfl
@[simp] theorem consume_ghost_resets (k : Kind) (rest : List Elem) (s : State) : (consume k rest s).ghost.resets = s.ghost.resets := rfl
@[simp] theorem consume_env (k : Kind) (rest : List Elem) (s : State) : (consume k rest s).env = s.env := rfl

/-! ### disarm -/

@[simp] theorem disarm_tickUs (s : State) : (disarm s).tickUs = s.tickUs := rfl
@[simp] theorem disarm_sync (s : State) : (disarm s).sync = s.sync := rfl
@[simp] theorem disarm_zero (s : State) : (disarm s).zero = s.zero := rfl
@[simp] theorem disarm_one (s : State) : (disarm s).one = s.one := rfl
@[simp] theorem disarm_inv (s : State) : (disarm s).inv = s.inv := rfl
@[simp] theorem disarm_code (s : State) : (disarm s).code = s.code := rfl
@[simp] theorem disarm_repeatN (s : State) : (disarm s).repeatN = s.repeatN := rfl
@[simp] theorem disarm_err (s : State) : (disarm s).err = s.err := rfl
@[simp] theorem disarm_active (s : State) : (disarm s).active = s.active := rfl
@[simp] theorem disarm_configured (s : State) : (disarm s).configured = s.configured := rfl
@[simp] theorem disarm_actLvl (s : State) : (disarm s).actLvl = s.actLvl := rfl
@[simp] theorem disarm_busy (s : State) : (disarm s).busy = false := rfl
@[simp] theorem disarm_seq (s : State) : (disarm s).seq = [] := rfl
@[simp] theorem disarm_tickArmed (s : State) : (disarm s).tickArmed = false := rfl
@[simp] theorem disarm_tickFlag (s : State) : (disarm s).tickFlag = s.tickFlag := rfl
@[simp] theorem disarm_dataOut (s : State) : (disarm s).dataOut = s.dataOut := rfl
@[simp] theorem disarm_pwr (s : State) : (disarm s).pwr = s.pwr := rfl
@[simp] theorem disarm_se (s : State) : (disarm s).se = s.se := rfl
@[simp] theorem disarm_wakeIe (s : State) : (disarm s).wakeIe = s.wakeIe := rfl
@[simp] theorem disarm_halted (s : State) : (disarm s).halted = s.halted := rfl
@[simp] theorem disarm_ghost (s : State) : (disarm s).ghost = s.ghost := rfl
@[simp] theorem disarm_env (s : State) : (disarm s).env = s.env := rfl

/-! ### haltInsn -/

@[simp] theorem haltInsn_tickUs (s : State) : (haltInsn s).tickUs = s.tickUs := rfl
@[simp] theorem haltInsn_sync (s : State) : (haltInsn s).sync = s.sync := rfl
@[simp] theorem haltInsn_zero (s : State) : (haltInsn s).zero = s.zero := rfl
@[simp] theorem haltInsn_one (s : State) : (haltInsn s).one = s.one := rfl
@[simp] theorem haltInsn_inv (s : State) : (haltInsn s).inv = s.inv := rfl
@[simp] theorem haltInsn_code (s : State) : (haltInsn s).code = s.code := rfl
@[simp] theorem haltInsn_repeatN (s : State) : (haltInsn s).repeatN = s.repeatN := rfl
@[simp] theorem haltInsn_err (s : State) : (haltInsn s).err = s.err := rfl
@[simp] theorem haltInsn_active (s : State) : (haltInsn s).active = s.active := rfl
@[simp] theorem haltInsn_configured (s : State) : (haltInsn s).configured = s.configured := rfl
@[simp] theorem haltInsn_actLvl (s : State) : (haltInsn s).actLvl = s.actLvl := rfl
@[simp] theorem haltInsn_busy (s : State) : (haltInsn s).busy = s.busy := rfl
@[simp] theorem haltInsn_seq (s : State) : (haltInsn s).seq = s.seq := rfl
@[simp] theorem haltInsn_tickArmed (s : State) : (haltInsn s).tickArmed = s.tickArmed := rfl
@[simp] theorem haltInsn_tickFlag (s : State) : (haltInsn s).tickFlag = s.tickFlag := rfl
@[simp] theorem haltInsn_dataOut (s : State) : (haltInsn s).dataOut = s.dataOut := rfl
@[simp] theorem haltInsn_pwr (s : State) : (haltInsn s).pwr = s.pwr := rfl
@[simp] theorem haltInsn_se (s : State) : (haltInsn s).se = s.se := rfl
@[simp] theorem haltInsn_wakeIe (s : State) : (haltInsn s).wakeIe = s.wakeIe := rfl
@[simp] theorem haltInsn_halted (s : State) : (haltInsn s).halted = (s.halted || s.se) := rfl
@[simp] theorem haltInsn_ghost (s : State) : (haltInsn s).ghost = s.ghost := rfl
@[simp] theorem haltInsn_env (s : State) : (haltInsn s).env = s.env := rfl

/-! ### takeTick -/

@[simp] theorem takeTick_tickUs (s : State) : (takeTick s).tickUs = s.tickUs := rfl
@[simp] theorem takeTick_sync (s : State) : (takeTick s).sync = s.sync := rfl
@[simp] theorem takeTick_zero (s : State) : (takeTick s).zero = s.zero := rfl
@[simp] theorem takeTick_one (s : State) : (takeTick s).one = s.one := rfl
@[simp] theorem takeTick_inv (s : State) : (takeTick s).inv = s.inv := rfl
@[simp] theorem takeTick_code (s : State) : (takeTick s).code = s.code := rfl
@[simp] theorem takeTick_repeatN (s : State) : (takeTick s).repeatN = s.repeatN := rfl
@[simp] theorem takeTick_err (s : State) : (takeTick s).err = s.err := rfl
@[simp] theorem takeTick_active (s : State) : (takeTick s).active = s.active := rfl
@[simp] theorem takeTick_configured (s : State) : (takeTick s).configured = s.configured := rfl
@[simp] theorem takeTick_actLvl (s : State) : (takeTick s).actLvl = s.actLvl := rfl
@[simp] theorem takeTick_busy (s : State) : (takeTick s).busy = s.busy := rfl
@[simp] theorem takeTick_seq (s : State) : (takeTick s).seq = s.seq := rfl
@[simp] theorem takeTick_tickArmed (s : State) : (takeTick s).tickArmed = s.tickArmed := rfl
@[simp] theorem takeTick_tickFlag (s : State) : (takeTick s).tickFlag = true := rfl
@[simp] theorem takeTick_dataOut (s : State) : (takeTick s).dataOut = s.dataOut := rfl
@[simp] theorem takeTick_pwr (s : State) : (takeTick s).pwr = s.pwr := rfl
@[simp] theorem takeTick_se (s : State) : (takeTick s).se = s.se := rfl
@[simp] theorem takeTick_wakeIe (s : State) : (takeTick s).wakeIe = s.wakeIe := rfl
@[simp] theorem takeTick_halted (s : State) : (takeTick s).halted = s.halted := rfl
@[simp] theorem takeTick_ghost_tickNo (s : State) : (takeTick s).ghost.tickNo = s.ghost.tickNo + 1 := rfl
@[simp] theorem takeTick_ghost_lost (s : State) : (takeTick s).ghost.lost = s.ghost.lost + s.tickFlag.toNat := rfl
@[simp] theorem takeTick_ghost_sends (s : State) : (takeTick s).ghost.sends = s.ghost.sends := rfl
@[simp] theorem takeTick_ghost_wave (s : State) : (takeTick s).ghost.wave = s.ghost.wave := rfl
@[simp] theorem takeTick_ghost_faultMark (s : State) : (takeTick s).ghost.faultMark = s.ghost.faultMark := rfl
@[simp] theorem takeTick_ghost_resets (s : State) : (takeTick s).ghost.resets = s.ghost.resets := rfl
@[simp] theorem takeTick_env (s : State) : (takeTick s).env = s.env := rfl

/-! ### edgeEvent -/

@[simp] theorem edgeEvent_tickUs (s : State) : (edgeEvent s).tickUs = s.tickUs := rfl
@[simp] theorem edgeEvent_sync (s : State) : (edgeEvent s).sync = s.sync := rfl
@[simp] theorem edgeEvent_zero (s : State) : (edgeEvent s).zero = s.zero := rfl
@[simp] theorem edgeEvent_one (s : State) : (edgeEvent s).one = s.one := rfl
@[simp] theorem edgeEvent_inv (s : State) : (edgeEvent s).inv = s.inv := rfl
@[simp] theorem edgeEvent_code (s : State) : (edgeEvent s).code = s.code := rfl
@[simp] theorem edgeEvent_repeatN (s : State) : (edgeEvent s).repeatN = s.repeatN := rfl
@[simp] theorem edgeEvent_err (s : State) : (edgeEvent s).err = s.err := rfl
@[simp] theorem edgeEvent_active (s : State) : (edgeEvent s).active = s.active := rfl
@[simp] theorem edgeEvent_configured (s : State) : (edgeEvent s).configured = s.configured := rfl
@[simp] theorem edgeEvent_actLvl (s : State) : (edgeEvent s).actLvl = s.actLvl := rfl
@[simp] theorem edgeEvent_busy (s : State) : (edgeEvent s).busy = s.busy := rfl
@[simp] theorem edgeEvent_seq (s : State) : (edgeEvent s).seq = s.seq := rfl
@[simp] theorem edgeEvent_tickArmed (s : State) : (edgeEvent s).tickArmed = s.tickArmed := rfl
@[simp] theorem edgeEvent_tickFlag (s : State) : (edgeEvent s).tickFlag = s.tickFlag := rfl
@[simp] theorem edgeEvent_dataOut (s : State) : (edgeEvent s).dataOut = s.dataOut := rfl
@[simp] theorem edgeEvent_pwr (s : State) : (edgeEvent s).pwr = s.pwr := rfl
@[simp] theorem edgeEvent_se (s : State) : (edgeEvent s).se = s.se := rfl
@[simp] theorem edgeEvent_wakeIe (s : State) : (edgeEvent s).wakeIe = s.wakeIe := rfl
@[simp] theorem edgeEvent_halted (s : State) : (edgeEvent s).halted = (s.halted && !s.wakeIe) := rfl
@[simp] theorem edgeEvent_ghost (s : State) : (edgeEvent s).ghost = s.ghost := rfl
@[simp] theorem edgeEvent_env (s : State) : (edgeEvent s).env = s.env := rfl

/-! ### wdtReset -/

@[simp] theorem wdtReset_tickUs (s : State) : (wdtReset s).tickUs = 0 := rfl
@[simp] theorem wdtReset_sync (s : State) : (wdtReset s).sync = 0 := rfl
@[simp] theorem wdtReset_zero (s : State) : (wdtReset s).zero = 0 := rfl
@[simp] theorem wdtReset_one (s : State) : (wdtReset s).one = 0 := rfl
@[simp] theorem wdtReset_inv (s : State) : (wdtReset s).inv = false := rfl
@[simp] theorem wdtReset_code (s : State) : (wdtReset s).code = 0 := rfl
@[simp] theorem wdtReset_repeatN (s : State) : (wdtReset s).repeatN = 1 := rfl
@[simp] theorem wdtReset_err (s : State) : (wdtReset s).err = .noError := rfl
@[simp] theorem wdtReset_active (s : State) : (wdtReset s).active = Config.freeProtocol s.env.drawNo := rfl
@[simp] theorem wdtReset_configured (s : State) : (wdtReset s).configured = false := rfl
@[simp] theorem wdtReset_actLvl (s : State) : (wdtReset s).actLvl = true := rfl
@[simp] theorem wdtReset_busy (s : State) : (wdtReset s).busy = false := rfl
@[simp] theorem wdtReset_seq (s : State) : (wdtReset s).seq = [] := rfl
@[simp] theorem wdtReset_tickArmed (s : State) : (wdtReset s).tickArmed = false := rfl
@[simp] theorem wdtReset_tickFlag (s : State) : (wdtReset s).tickFlag = false := rfl
@[simp] theorem wdtReset_dataOut (s : State) : (wdtReset s).dataOut = false := rfl
@[simp] theorem wdtReset_pwr (s : State) : (wdtReset s).pwr = { Config.freePwr s.env.drawNo with lpcfg := false } := rfl
@[simp] theorem wdtReset_se (s : State) : (wdtReset s).se = false := rfl
@[simp] theorem wdtReset_wakeIe (s : State) : (wdtReset s).wakeIe = false := rfl
@[simp] theorem wdtReset_halted (s : State) : (wdtReset s).halted = false := rfl
@[simp] theorem wdtReset_ghost_tickNo (s : State) : (wdtReset s).ghost.tickNo = 0 := rfl
@[simp] theorem wdtReset_ghost_lost (s : State) : (wdtReset s).ghost.lost = s.ghost.lost := rfl
@[simp] theorem wdtReset_ghost_sends (s : State) : (wdtReset s).ghost.sends = s.ghost.sends := rfl
@[simp] theorem wdtReset_ghost_wave (s : State) : (wdtReset s).ghost.wave = s.ghost.wave := rfl
@[simp] theorem wdtReset_ghost_faultMark (s : State) : (wdtReset s).ghost.faultMark = s.ghost.faultMark := rfl
@[simp] theorem wdtReset_ghost_resets (s : State) : (wdtReset s).ghost.resets = s.ghost.resets + 1 := rfl
@[simp] theorem wdtReset_env_base (s : State) : (wdtReset s).env.base = s.env.base := rfl
@[simp] theorem wdtReset_env_endLevel (s : State) : (wdtReset s).env.endLevel = s.env.endLevel := rfl
@[simp] theorem wdtReset_env_program (s : State) : (wdtReset s).env.program = s.env.program := rfl
@[simp] theorem wdtReset_env_todo (s : State) : (wdtReset s).env.todo = s.env.program := rfl
@[simp] theorem wdtReset_env_reads (s : State) : (wdtReset s).env.reads = [] := rfl
@[simp] theorem wdtReset_env_sched (s : State) : (wdtReset s).env.sched = s.env.sched := rfl
@[simp] theorem wdtReset_env_drawNo (s : State) : (wdtReset s).env.drawNo = s.env.drawNo + 1 := rfl

/-! ### afterPick: the schedule and the draw counter alone -/

@[simp] theorem afterPick_tickUs (s : State) : s.afterPick.tickUs = s.tickUs := by
  unfold State.afterPick; split <;> rfl
@[simp] theorem afterPick_sync (s : State) : s.afterPick.sync = s.sync := by
  unfold State.afterPick; split <;> rfl
@[simp] theorem afterPick_zero (s : State) : s.afterPick.zero = s.zero := by
  unfold State.afterPick; split <;> rfl
@[simp] theorem afterPick_one (s : State) : s.afterPick.one = s.one := by
  unfold State.afterPick; split <;> rfl
@[simp] theorem afterPick_inv (s : State) : s.afterPick.inv = s.inv := by
  unfold State.afterPick; split <;> rfl
@[simp] theorem afterPick_code (s : State) : s.afterPick.code = s.code := by
  unfold State.afterPick; split <;> rfl
@[simp] theorem afterPick_repeatN (s : State) : s.afterPick.repeatN = s.repeatN := by
  unfold State.afterPick; split <;> rfl
@[simp] theorem afterPick_err (s : State) : s.afterPick.err = s.err := by
  unfold State.afterPick; split <;> rfl
@[simp] theorem afterPick_active (s : State) : s.afterPick.active = s.active := by
  unfold State.afterPick; split <;> rfl
@[simp] theorem afterPick_configured (s : State) : s.afterPick.configured = s.configured := by
  unfold State.afterPick; split <;> rfl
@[simp] theorem afterPick_actLvl (s : State) : s.afterPick.actLvl = s.actLvl := by
  unfold State.afterPick; split <;> rfl
@[simp] theorem afterPick_busy (s : State) : s.afterPick.busy = s.busy := by
  unfold State.afterPick; split <;> rfl
@[simp] theorem afterPick_seq (s : State) : s.afterPick.seq = s.seq := by
  unfold State.afterPick; split <;> rfl
@[simp] theorem afterPick_tickArmed (s : State) : s.afterPick.tickArmed = s.tickArmed := by
  unfold State.afterPick; split <;> rfl
@[simp] theorem afterPick_tickFlag (s : State) : s.afterPick.tickFlag = s.tickFlag := by
  unfold State.afterPick; split <;> rfl
@[simp] theorem afterPick_dataOut (s : State) : s.afterPick.dataOut = s.dataOut := by
  unfold State.afterPick; split <;> rfl
@[simp] theorem afterPick_pwr (s : State) : s.afterPick.pwr = s.pwr := by
  unfold State.afterPick; split <;> rfl
@[simp] theorem afterPick_se (s : State) : s.afterPick.se = s.se := by
  unfold State.afterPick; split <;> rfl
@[simp] theorem afterPick_wakeIe (s : State) : s.afterPick.wakeIe = s.wakeIe := by
  unfold State.afterPick; split <;> rfl
@[simp] theorem afterPick_halted (s : State) : s.afterPick.halted = s.halted := by
  unfold State.afterPick; split <;> rfl
@[simp] theorem afterPick_ghost (s : State) : s.afterPick.ghost = s.ghost := by
  unfold State.afterPick; split <;> rfl
@[simp] theorem afterPick_env_base (s : State) : s.afterPick.env.base = s.env.base := by
  unfold State.afterPick; split <;> rfl
@[simp] theorem afterPick_env_endLevel (s : State) : s.afterPick.env.endLevel = s.env.endLevel := by
  unfold State.afterPick; split <;> rfl
@[simp] theorem afterPick_env_program (s : State) : s.afterPick.env.program = s.env.program := by
  unfold State.afterPick; split <;> rfl
@[simp] theorem afterPick_env_todo (s : State) : s.afterPick.env.todo = s.env.todo := by
  unfold State.afterPick; split <;> rfl
@[simp] theorem afterPick_env_reads (s : State) : s.afterPick.env.reads = s.env.reads := by
  unfold State.afterPick; split <;> rfl

/-! ### writeReg: the staged registers alone -/

@[simp] theorem writeReg_err (r : Reg) (v : Word) (s : State) : (writeReg r v s).err = s.err := by
  cases r <;> rfl
@[simp] theorem writeReg_active (r : Reg) (v : Word) (s : State) : (writeReg r v s).active = s.active := by
  cases r <;> rfl
@[simp] theorem writeReg_configured (r : Reg) (v : Word) (s : State) : (writeReg r v s).configured = s.configured := by
  cases r <;> rfl
@[simp] theorem writeReg_actLvl (r : Reg) (v : Word) (s : State) : (writeReg r v s).actLvl = s.actLvl := by
  cases r <;> rfl
@[simp] theorem writeReg_busy (r : Reg) (v : Word) (s : State) : (writeReg r v s).busy = s.busy := by
  cases r <;> rfl
@[simp] theorem writeReg_seq (r : Reg) (v : Word) (s : State) : (writeReg r v s).seq = s.seq := by
  cases r <;> rfl
@[simp] theorem writeReg_tickArmed (r : Reg) (v : Word) (s : State) : (writeReg r v s).tickArmed = s.tickArmed := by
  cases r <;> rfl
@[simp] theorem writeReg_tickFlag (r : Reg) (v : Word) (s : State) : (writeReg r v s).tickFlag = s.tickFlag := by
  cases r <;> rfl
@[simp] theorem writeReg_dataOut (r : Reg) (v : Word) (s : State) : (writeReg r v s).dataOut = s.dataOut := by
  cases r <;> rfl
@[simp] theorem writeReg_pwr (r : Reg) (v : Word) (s : State) : (writeReg r v s).pwr = s.pwr := by
  cases r <;> rfl
@[simp] theorem writeReg_se (r : Reg) (v : Word) (s : State) : (writeReg r v s).se = s.se := by
  cases r <;> rfl
@[simp] theorem writeReg_wakeIe (r : Reg) (v : Word) (s : State) : (writeReg r v s).wakeIe = s.wakeIe := by
  cases r <;> rfl
@[simp] theorem writeReg_halted (r : Reg) (v : Word) (s : State) : (writeReg r v s).halted = s.halted := by
  cases r <;> rfl
@[simp] theorem writeReg_ghost (r : Reg) (v : Word) (s : State) : (writeReg r v s).ghost = s.ghost := by
  cases r <;> rfl
@[simp] theorem writeReg_env (r : Reg) (v : Word) (s : State) : (writeReg r v s).env = s.env := by
  cases r <;> rfl
@[simp] theorem writeReg_tickUs (r : Reg) (v : Word) (s : State) :
    (writeReg r v s).tickUs = if r = .tickUs then v.extractLsb' 0 16 else s.tickUs := by
  cases r <;> rfl
@[simp] theorem writeReg_sync (r : Reg) (v : Word) (s : State) :
    (writeReg r v s).sync = if r = .sync then v else s.sync := by
  cases r <;> rfl
@[simp] theorem writeReg_zero (r : Reg) (v : Word) (s : State) :
    (writeReg r v s).zero = if r = .zero then v else s.zero := by
  cases r <;> rfl
@[simp] theorem writeReg_one (r : Reg) (v : Word) (s : State) :
    (writeReg r v s).one = if r = .one then v else s.one := by
  cases r <;> rfl
@[simp] theorem writeReg_inv (r : Reg) (v : Word) (s : State) :
    (writeReg r v s).inv = if r = .pflags then v.getLsbD 0 else s.inv := by
  cases r <;> rfl
@[simp] theorem writeReg_code (r : Reg) (v : Word) (s : State) :
    (writeReg r v s).code = if r = .code then v else s.code := by
  cases r <;> rfl
@[simp] theorem writeReg_repeatN (r : Reg) (v : Word) (s : State) : (writeReg r v s).repeatN = s.repeatN := by
  cases r <;> rfl

end Sys2Proof.Machine
end

