-- ==== Sys2Proof/Laws/Ops.lean ====
section
/-! SUPPORT. What each shared operation can do, stated once. -/

namespace Sys2Proof.Machine

/-! ### The schedule -/

theorem nextAgent_cons {s : State} {a : Agent} {as : List Agent} (h : s.env.sched = a :: as) : s.nextAgent = a := by
  simp [State.nextAgent, h]

theorem afterPick_cons {s : State} {a : Agent} {as : List Agent} (h : s.env.sched = a :: as) :
    s.afterPick = { s with env.sched := as } := by
  simp [State.afterPick, h]

/-- Choosing an agent changes the schedule or the draw counter and nothing else. -/
theorem afterPick_eq (s : State) :
    ∃ sched drawNo, s.afterPick = { s with env := { s.env with sched := sched, drawNo := drawNo } } := by
  unfold State.afterPick
  split
  · exact ⟨_, _, rfl⟩
  · exact ⟨_, _, rfl⟩

@[simp] theorem afterPick_statusWord (s : State) : s.afterPick.statusWord = s.statusWord := by
  unfold State.afterPick; split <;> rfl

@[simp] theorem afterPick_levelOf (k : Kind) (s : State) : levelOf k s.afterPick = levelOf k s := by
  unfold State.afterPick; split <;> rfl

@[simp] theorem advance_levelOf (k : Kind) (rest : List HostOp) (s : State) : levelOf k (s.advance rest) = levelOf k s := rfl

@[simp] theorem afterPick_readReg (r : Reg) (s : State) : readReg r s.afterPick = readReg r s := by
  unfold State.afterPick; split <;> rfl

/-! ### Errors -/

theorem raiseErr_first {s : State} (c : ErrCode) (h : s.err = .noError) :
    raiseErr c s = { s with err := c, ghost.faultMark := true } := by
  simp [raiseErr, h]

theorem raiseErr_later {s : State} (c : ErrCode) (h : s.err ≠ .noError) : raiseErr c s = s := by
  simp [raiseErr, h]

/-! ### The window -/

@[simp] theorem Reg.ofOffset_offset (r : Reg) : Reg.ofOffset r.offset = some r := by cases r <;> rfl

@[simp] theorem admitted_word_offset (r : Reg) : admitted r.offset .word = some r := by simp [admitted]

/-- An offset names at most one register. -/
theorem Reg.offset_of_ofOffset : ∀ {off : BitVec 6} {r : Reg}, Reg.ofOffset off = some r → off = r.offset := by
  intro off r
  revert off
  cases r <;> decide

/-- An admitted access is a 4-byte access at the register's offset. -/
theorem admitted_some {off : BitVec 6} {n : Width} {r : Reg} (h : admitted off n = some r) : n = .word ∧ off = r.offset := by
  unfold admitted at h
  split at h
  · exact ⟨‹_›, Reg.offset_of_ofOffset h⟩
  · cases h

theorem hostRead_admitted {off : BitVec 6} {n : Width} {r : Reg} (s : State) (h : admitted off n = some r) :
    hostRead off n s = (readReg r s, s) := by simp [hostRead, h]

theorem hostRead_bad {off : BitVec 6} {n : Width} (s : State) (h : admitted off n = none) :
    hostRead off n s = (0, raiseErr .badAccess s) := by simp [hostRead, h]

theorem offset_window (off : BitVec 6) (base : Nat) : (HostAddr.window off).offset? base = some off := rfl

/-! ### Levels -/

theorem levelOf_act (s : State) : levelOf .act s = s.actLvl := rfl

theorem levelOf_idl (s : State) : levelOf .idl s = !s.actLvl := rfl

theorem levelOf_trail_idle {s : State} (h : s.env.endLevel = .idle) : levelOf .trail s = !s.actLvl := by
  simp [levelOf, h, State.idleLvl]

theorem levelOf_trail_low {s : State} (h : s.env.endLevel = .low) : levelOf .trail s = false := by
  simp [levelOf, h]

/-- The level of a pin write depends on ACT_LVL and P_END_LEVEL alone. -/
theorem levelOf_congr {s t : State} (ha : t.actLvl = s.actLvl) (he : t.env.endLevel = s.env.endLevel) (k : Kind) :
    levelOf k t = levelOf k s := by
  cases k <;> simp [levelOf, State.idleLvl, ha, he]

/-! ### The pulse program -/

@[simp] theorem units_length (t : Half × Half) : (units t).length = timingTicks t := by
  simp [units, timingTicks]

theorem program_append (p : Protocol) (c : Word) (l n : Nat) :
    program p c l n = (List.replicate n (frame p c l)).flatten ++ [.write .trail, .disarm] := rfl

@[simp] theorem codeBits_length (c : Word) (l : Nat) : (codeBits c l).length = l := by
  induction l with
  | zero => rfl
  | succ l ih => simp [codeBits, ih]

end Sys2Proof.Machine
end

