-- ==== Sys2Proof/Laws/PerInstr.lean ====
section
/-! SUPPORT. Statements about every instruction as syntax, one lemma per constructor. -/

namespace Sys2Proof.Laws.EncodeFields

/-- The word of an instruction carries its row of the table of R82: its opcode in bits 31:28, and its match value under its
mask. -/
def Statement (i : Instr) : Prop :=
  opField (encode i) = i.opcode ∧ encode i &&& i.maskWord = i.matchWord

theorem configure : Statement .configure := ⟨by decide, by decide⟩

theorem setrepeat (n : BitVec 16) : Statement (.setrepeat n) := by
  constructor
  · ext i hi
    simp only [encode, opField, Instr.opcode, Instr.matchWord, Instr.operandWord, BitVec.getElem_extractLsb',
      BitVec.getLsbD_or, BitVec.getLsbD_setWidth]
    interval_cases i <;> simp
  · ext i hi
    simp only [encode, Instr.maskWord, Instr.matchWord, Instr.operandWord, BitVec.getElem_and, BitVec.getElem_or,
      BitVec.getElem_setWidth]
    interval_cases i <;> simp

theorem send (len : BitVec 6) : Statement (.send len) := by
  constructor
  · revert len; decide
  · revert len; decide

theorem lowpower : Statement .lowpower := ⟨by decide, by decide⟩

theorem armwake : Statement .armwake := ⟨by decide, by decide⟩

theorem sleep : Statement .sleep := ⟨by decide, by decide⟩

theorem halt : Statement .halt := ⟨by decide, by decide⟩

theorem wake : Statement .wake := ⟨by decide, by decide⟩

end Sys2Proof.Laws.EncodeFields
end

