-- ==== Sys2Proof/Laws/Step.lean ====
section
/-! SUPPORT. What a command and a step can do, said once: proofs about steps split on these cases and unfold nothing. -/

namespace Sys2Proof.Machine

/-- The effects of the commands, one case per outcome of a meaning (40_config, 41_transmit R120, 42_power). -/
inductive CommandChange (s : State) : Instr → State → Prop where
  | configure (h : s.tickUs ≠ 0#16) : CommandChange s .configure (latchProtocol s)
  | badTick (h : s.tickUs = 0#16) : CommandChange s .configure (raiseErr .badTick s)
  | setrepeat (n : BitVec 16) : CommandChange s (.setrepeat n) { s with repeatN := n }
  | badLength (len : BitVec 6) (h : 32 < len.toNat) : CommandChange s (.send len) (raiseErr .badLength s)
  | notConfigured (len : BitVec 6) (hl : len.toNat ≤ 32) (h : s.configured = false) :
      CommandChange s (.send len) (raiseErr .notConfigured s)
  | degenerate (len : BitVec 6) (hl : len.toNat ≤ 32) (hc : s.configured = true)
      (h : isDegenerate s.active s.code len.toNat s.repeatN.toNat = true) :
      CommandChange s (.send len) (raiseErr .degenerate s)
  | send (len : BitVec 6) (hl : len.toNat ≤ 32) (hc : s.configured = true)
      (h : isDegenerate s.active s.code len.toNat s.repeatN.toNat = false) :
      CommandChange s (.send len) (startSend (program s.active s.code len.toNat s.repeatN.toNat) s)
  | lowpower : CommandChange s .lowpower { s with pwr := lowPowerPwr }
  | armwake : CommandChange s .armwake { s with wakeIe := true }
  | sleep : CommandChange s .sleep (haltInsn { s with se := true })
  | halt : CommandChange s .halt (haltInsn s)
  | wake : CommandChange s .wake { s with se := false }

/-- Every command completes, with one of its effects. -/
theorem exec_change (i : Instr) (s : State) : ∃ t, exec i s = .next t ∧ CommandChange s i t := by
  cases i with
  | configure =>
    by_cases h : s.tickUs = 0#16
    · exact ⟨_, by simp only [exec, execConfigure, h, if_true], .badTick h⟩
    · exact ⟨_, by simp only [exec, execConfigure, h, if_false], .configure h⟩
  | setrepeat n => exact ⟨_, rfl, .setrepeat n⟩
  | send len =>
    by_cases hl : 32 < len.toNat
    · exact ⟨_, by simp only [exec, execSend, Config.lenMax, hl, if_true], .badLength len hl⟩
    have hl' : len.toNat ≤ 32 := by omega
    cases hc : s.configured with
    | false => exact ⟨_, by simp only [exec, execSend, Config.lenMax, hl, hc, if_true, if_false], .notConfigured len hl' hc⟩
    | true =>
      cases hd : isDegenerate s.active s.code len.toNat s.repeatN.toNat with
      | true => exact ⟨_, by simp [exec, execSend, Config.lenMax, hl, hc, hd], .degenerate len hl' hc hd⟩
      | false => exact ⟨_, by simp [exec, execSend, Config.lenMax, hl, hc, hd], .send len hl' hc hd⟩
  | lowpower => exact ⟨_, rfl, .lowpower⟩
  | armwake => exact ⟨_, rfl, .armwake⟩
  | sleep => exact ⟨_, rfl, .sleep⟩
  | halt => exact ⟨_, rfl, .halt⟩
  | wake => exact ⟨_, rfl, .wake⟩

/-- What a command does where it answers a next state. -/
theorem exec_next {i : Instr} {s t : State} (h : exec i s = .next t) : CommandChange s i t := by
  obtain ⟨u, hu, hc⟩ := exec_change i s
  rw [h] at hu
  cases hu
  exact hc

/-- What a command word does: a command, or an error recorded and nothing else (30_encoding R91). -/
theorem command_next {w : Word} {s t : State} (h : command w s = .next t) :
    (∃ i, decode w = .cmd i ∧ CommandChange s i t) ∨
      ∃ c, c ≠ ErrCode.noError ∧ t = raiseErr c s := by
  unfold command at h
  split at h
  · exact .inl ⟨_, ‹_›, exec_next h⟩
  · cases h; exact .inr ⟨_, by decide, rfl⟩
  · cases h; exact .inr ⟨_, by decide, rfl⟩

/-- The changes a step can make, one case per atomic transition (00_scope R7): `u` is the state with the agent chosen. -/
inductive StepChange (s : State) : State → Prop where
  /-- The chosen agent has no enabled step. -/
  | held : StepChange s s.afterPick
  | read (ha : s.nextAgent = .host) (hh : s.halted = false) (v : Word) (rest : List HostOp) :
      StepChange s ((s.afterPick.recordRead v).advance rest)
  | badRead (ha : s.nextAgent = .host) (hh : s.halted = false) (v : Word) (rest : List HostOp) :
      StepChange s (((raiseErr .badAccess s.afterPick).recordRead v).advance rest)
  | badWrite (ha : s.nextAgent = .host) (hh : s.halted = false) (rest : List HostOp) :
      StepChange s ((raiseErr .badAccess s.afterPick).advance rest)
  | staged (ha : s.nextAgent = .host) (hh : s.halted = false) (r : Reg) (v : Word) (rest : List HostOp) :
      StepChange s ((writeReg r v s.afterPick).advance rest)
  | badCommand (ha : s.nextAgent = .host) (hh : s.halted = false) (hb : s.busy = false) (c : ErrCode)
      (hc : c ≠ .noError) (rest : List HostOp) : StepChange s (raiseErr c (s.afterPick.advance rest))
  | command (ha : s.nextAgent = .host) (hh : s.halted = false) (hb : s.busy = false) (op : HostOp) (rest : List HostOp)
      (ho : s.env.todo = op :: rest) (i : Instr) (hi : op.issues s.env.base i = true) (t : State)
      (ht : CommandChange (s.afterPick.advance rest) i t) : StepChange s t
  | consume (ha : s.nextAgent = .engine) (hb : s.busy = true) (k : Kind) (rest : List Elem) (hs : s.seq = .write k :: rest)
      (hf : s.tickFlag = true) : StepChange s (consume k rest s.afterPick)
  | disarm (ha : s.nextAgent = .engine) (hb : s.busy = true) (rest : List Elem) (hs : s.seq = .disarm :: rest) :
      StepChange s (disarm s.afterPick)
  | tick (ha : s.nextAgent = .tick) (h : s.tickArmed = true) : StepChange s (takeTick s.afterPick)
  | edge (ha : s.nextAgent = .edge) : StepChange s (edgeEvent s.afterPick)
  | reset (ha : s.nextAgent = .wdt) (h : s.pwr.wdtEn = true) : StepChange s (wdtReset s.afterPick)

theorem readAccess_next {s t : State} {a : HostAddr} {n : Width} {rest : List HostOp} (ha : s.nextAgent = .host)
    (hh : s.halted = false) (h : readAccess a n rest s.afterPick = .next t) : StepChange s t := by
  unfold readAccess at h
  split at h
  · cases h
  · rename_i off _
    cases hd : admitted off n with
    | none => rw [hostRead_bad _ hd] at h; cases h; exact .badRead ha hh 0 rest
    | some r => rw [hostRead_admitted _ hd] at h; cases h; exact .read ha hh _ rest

theorem writeAccess_next {s t : State} {a : HostAddr} {n : Width} {v : Word} {rest : List HostOp}
    (ha : s.nextAgent = .host) (hh : s.halted = false) (hw : s.env.todo = .write a n v :: rest)
    (h : writeAccess a n v rest s.afterPick = .next t) : StepChange s t := by
  unfold writeAccess at h
  split at h
  · cases h
  · rename_i off hoff
    split at h
    · cases h; exact .badWrite ha hh rest
    · rename_i had
      cases hb : s.busy with
      | true => simp [hb] at h; cases h; exact .held
      | false =>
        simp only [afterPick_busy, hb] at h
        rcases command_next h with ⟨i, hd, hc⟩ | ⟨c, hc, rfl⟩
        · refine .command ha hh hb _ rest hw i ?_ t hc
          simp only [afterPick_env_base] at hoff
          simp [HostOp.issues, hoff, had, hd]
        · exact .badCommand ha hh hb c hc rest
    · cases h; exact .staged ha hh _ v rest

theorem hostStep_next {s t : State} (ha : s.nextAgent = .host) (h : hostStep s.afterPick = .next t) : StepChange s t := by
  unfold hostStep at h
  cases hh : s.halted with
  | true => simp [hh] at h; cases h; exact .held
  | false =>
    simp only [afterPick_halted, hh, Bool.false_eq_true, if_false, afterPick_env_todo] at h
    split at h
    · cases h; exact .held
    · exact readAccess_next ha hh h
    · exact writeAccess_next ha hh ‹_› h

theorem engineStep_change {s : State} (ha : s.nextAgent = .engine) : StepChange s (engineStep s.afterPick) := by
  unfold engineStep
  cases hb : s.busy with
  | false => simp [hb]; exact .held
  | true =>
    simp only [afterPick_busy, hb, if_true, afterPick_seq, afterPick_tickFlag]
    split
    · exact .held
    · rename_i k rest hs
      cases hf : s.tickFlag with
      | false => simp; exact .held
      | true => simp; exact .consume ha hb k rest hs hf
    · rename_i rest hs; exact .disarm ha hb rest hs

/-- What a step can do: every case of a step that answers a next state. -/
theorem step_next {s t : State} (h : step s = .next t) : StepChange s t := by
  unfold step agentStep at h
  cases ha : s.nextAgent with
  | host => rw [ha] at h; exact hostStep_next ha h
  | engine => rw [ha] at h; cases h; exact engineStep_change ha
  | tick =>
    rw [ha] at h; cases h
    unfold tickEvent
    cases hr : s.tickArmed with
    | false => simp [hr]; exact .held
    | true => simp [hr]; exact .tick ha hr
  | edge => rw [ha] at h; cases h; exact .edge ha
  | wdt =>
    rw [ha] at h; cases h
    unfold wdtEvent
    cases hr : s.pwr.wdtEn with
    | false => simp [hr]; exact .held
    | true => simp [hr]; exact .reset ha hr

/-- An invariant of single steps holds along every run. -/
theorem Reaches.keeps {P : State → Prop} (hP : ∀ s t, P s → step s = .next t → P t) {s t : State} (h : Reaches s t)
    (hs : P s) : P t := by
  induction h with
  | refl => exact hs
  | tail _ ht ih => exact hP _ _ ih ht

/-! ### The host's next operation -/

/-- The step of a running host whose next operation is a read. -/
theorem step_host_read {s : State} {a : HostAddr} {n : Width} {rest : List HostOp} (ha : s.nextAgent = .host)
    (hh : s.halted = false) (ht : s.env.todo = .read a n :: rest) : step s = readAccess a n rest s.afterPick := by
  simp [step, agentStep, ha, hostStep, hh, ht]

/-- The step of a running host whose next operation is a write. -/
theorem step_host_write {s : State} {a : HostAddr} {n : Width} {v : Word} {rest : List HostOp} (ha : s.nextAgent = .host)
    (hh : s.halted = false) (ht : s.env.todo = .write a n v :: rest) : step s = writeAccess a n v rest s.afterPick := by
  simp [step, agentStep, ha, hostStep, hh, ht]

/-! ### What only grows, and what never changes -/

theorem step_lost_le {s t : State} (h : step s = .next t) : s.ghost.lost ≤ t.ghost.lost := by
  cases step_next h with
  | command _ _ _ _ _ _ _ _ _ hc => cases hc <;> simp
  | _ => simp

theorem step_resets_le {s t : State} (h : step s = .next t) : s.ghost.resets ≤ t.ghost.resets := by
  cases step_next h with
  | command _ _ _ _ _ _ _ _ _ hc => cases hc <;> simp
  | _ => simp

theorem step_sends_le {s t : State} (h : step s = .next t) : s.ghost.sends ≤ t.ghost.sends := by
  cases step_next h with
  | command _ _ _ _ _ _ _ _ _ hc => cases hc <;> simp
  | _ => simp

theorem step_endLevel {s t : State} (h : step s = .next t) : t.env.endLevel = s.env.endLevel := by
  cases step_next h with
  | command _ _ _ _ _ _ _ _ _ hc => cases hc <;> simp
  | _ => simp

/-- One step of a run of the core. -/
theorem run_succ {s t : State} (k : Nat) (h : step s = .next t) : Host.Core.run core (k + 1) s = Host.Core.run core k t := by
  have h' : core.step s = .next t := h
  simp only [Host.Core.run, h']

end Sys2Proof.Machine
end

