-- ==== Sys2Proof/Laws/Wave.lean ====
section
/-! SUPPORT. The pin writes of a pulse program and the records they make. -/

namespace Sys2Proof.Machine

/-- A list with no DISARM is a list of pin writes. -/
theorem pinWrites_append {us rest : List Elem} (h : ∀ e ∈ us, e ≠ Elem.disarm) :
    ∃ ks : List Kind, us = ks.map .write ∧ pinWrites (us ++ rest) = ks ++ pinWrites rest := by
  induction us with
  | nil => exact ⟨[], rfl, rfl⟩
  | cons e us ih =>
    obtain ⟨ks, h1, h2⟩ := ih fun e he => h e (by simp [he])
    cases e with
    | disarm => exact absurd rfl (h _ (by simp))
    | write k => exact ⟨k :: ks, by simp [h1], by simp [pinWrites, h2]⟩

/-- No unit of a frame is a DISARM. -/
theorem frame_no_disarm {p : Protocol} {c : Word} {l : Nat} : ∀ e ∈ frame p c l, e ≠ Elem.disarm := by
  intro e he
  simp only [frame, List.mem_append, List.mem_flatMap, units, List.mem_replicate] at he
  rcases he with ⟨b, _, he⟩ | he <;> rcases he with he | he <;> simp [he.2]

@[simp] theorem frame_length (p : Protocol) (c : Word) (l : Nat) : (frame p c l).length = frameTicks p c l := by
  simp [frame, frameTicks, List.length_flatMap]

/-- A program is its pin writes, as many as the consumes of the SEND, and then DISARM. -/
theorem program_pinWrites (p : Protocol) (c : Word) (l n : Nat) :
    program p c l n = (pinWrites (program p c l n)).map .write ++ [.disarm] ∧
      (pinWrites (program p c l n)).length = sendConsumes p c l n := by
  obtain ⟨ks, h1, h2⟩ := pinWrites_append (us := (List.replicate n (frame p c l)).flatten)
    (rest := [.write .trail, .disarm]) (by
      intro e he
      simp only [List.mem_flatten, List.mem_replicate] at he
      obtain ⟨f, ⟨_, rfl⟩, he⟩ := he
      exact frame_no_disarm e he)
  have e : pinWrites (program p c l n) = ks ++ [.trail] := by rw [program, h2]; rfl
  have hl := congrArg List.length h1
  simp at hl
  exact ⟨by rw [e, program, h1]; simp, by rw [e]; simp [sendConsumes, ← hl]⟩

@[simp] theorem recordsFrom_length (send : Nat) (level : Kind → Level) (tick : Nat) (ks : List Kind) :
    (recordsFrom send level tick ks).length = ks.length := by
  induction ks generalizing tick with
  | nil => rfl
  | cons k ks ih => simp [recordsFrom, ih]

theorem recordsFrom_getElem? {send : Nat} {level : Kind → Level} {ks : List Kind} {tick m : Nat} {k : Kind}
    (h : ks[m]? = some k) :
    (recordsFrom send level tick ks)[m]? = some { send := send, tick := tick + m, level := level k, kind := k } := by
  induction ks generalizing tick m with
  | nil => simp at h
  | cons x ks ih =>
    cases m with
    | zero => simp at h; subst h; rfl
    | succ m => simp at h; simp [recordsFrom, ih h]; omega

end Sys2Proof.Machine
end

