-- ==== Sys2Proof/Tests/Slice0.lean ====
section
/-! SUPPORT. Tests: words and vectors copied from the spec (30_encoding R82, 95_test_vectors), and for each obligation with
hypotheses a witness that meets them together. Each test is about one step on a small state. -/

namespace Sys2Proof.Tests

open Sys2Proof.Machine

/-! ### Small states -/

/-- The state a step or a command answers. -/
def nextOf (o : Host.Outcome State Fault Refusal) : Option State :=
  match o with
  | .next s => some s
  | .fault _ => none
  | .refused _ => none

/-- A FRESH state with its open values fixed for testing: the window at 0x1000, the watchdog drawn on. -/
def fresh : State :=
  { State.reset with
    active := { tickUs := 0, syncH := 0, syncL := 0, zeroH := 0, zeroL := 0, oneH := 0, oneL := 0, inv := false }
    pwr :=
      { adcEn := true, acmpEn := true, wdtEn := true, pullupUnused := false, uclkEn := true, sleepDeep := false, lpcfg := false }
    env := { Env.start with base := 0x1000 } }

/-- `fresh` with the S8 words of 95_test_vectors staged. -/
def staged : State :=
  { fresh with tickUs := 0x01F4, sync := 0x000E0001, zero := 0x00030001, one := 0x00010003 }

/-- CF-1: S8 configured. -/
def ready : State := (nextOf (exec .configure staged)).getD staged

/-- TX-1 right after SEND: S8, code 5, length 3. -/
def sending : State := (nextOf (exec (.send 3) { ready with code := 5 })).getD ready

/-- TX-4 right after SEND: no repeats. -/
def trailing : State := (nextOf (exec (.send 32) { ready with repeatN := 0 })).getD ready

/-- `s` with a host program and the next agents. -/
def hosting (ops : List HostOp) (agents : List Agent) (s : State) : State := s.load ops agents

/-- A text's lines as accesses. -/
def asm (t : String) : Option (List HostOp) := assembleText t.toList

/-! ### Well-formedness: each check refuses an ill-formed operand (R87, R88, R89) -/

theorem test_repeat_bound : fitsRepeat 65535 = true ∧ fitsRepeat 65536 = false := by decide
theorem test_length_bound : fitsLength 63 = true ∧ fitsLength 64 = false := by decide
theorem test_word_bound : fitsWord 0xFFFFFFFF = true ∧ fitsWord 0x100000000 = false := by decide
theorem test_count_bound : fitsCount 65535 = true ∧ fitsCount 65536 = false := by decide
theorem test_flag_bound : fitsFlag 1 = true ∧ fitsFlag 2 = false := by decide
theorem test_line_refused :
    (AsmLine.wr .code 0x100000000).assemble = none ∧ (AsmLine.setrepeat 65536).assemble = none ∧
    (AsmLine.send 64).assemble = none ∧ (AsmLine.cmd 0x100000000).assemble = none ∧
    (AsmLine.tx 0x100000000 3).assemble = none ∧ (AsmLine.tx 5 64).assemble = none ∧
    (AsmLine.proto 0x100000000 1 14 1 3 3 1 0).assemble = none ∧ (AsmLine.proto 500 65536 14 1 3 3 1 0).assemble = none ∧
    (AsmLine.proto 500 1 14 1 3 3 65536 0).assemble = none ∧ (AsmLine.proto 500 1 14 1 3 3 1 2).assemble = none := by
  decide

/-! ### Decoding: words written out from the table of R82 -/

/-- CONFIGURE: OP 0001, 28 zero bits. -/
theorem test_decode_configure : decode 0b00010000000000000000000000000000#32 = .cmd .configure := by decide
/-- SET_REPEAT: OP 0010, 12 zero bits, N (DC-6: 0xABCD = 43981). -/
theorem test_decode_setrepeat : decode 0b00100000000000001010101111001101#32 = .cmd (.setrepeat 43981) := by decide
/-- SEND: OP 0011, 22 zero bits, L (DC-7: 32). -/
theorem test_decode_send : decode 0b00110000000000000000000000100000#32 = .cmd (.send 32) := by decide
theorem test_decode_lowpower : decode 0b10000000000000000000000000000000#32 = .cmd .lowpower := by decide
theorem test_decode_armwake : decode 0b10010000000000000000000000000000#32 = .cmd .armwake := by decide
theorem test_decode_sleep : decode 0b10100000000000000000000000000000#32 = .cmd .sleep := by decide
theorem test_decode_halt : decode 0b10110000000000000000000000000000#32 = .cmd .halt := by decide
theorem test_decode_wake : decode 0b11000000000000000000000000000000#32 = .cmd .wake := by decide

/-- DC-1 to DC-4. -/
theorem test_illegal_words :
    [0x00000000#32, 0x40000000, 0x50000000, 0x60000000, 0x70000000, 0xD0000000, 0xE0000000, 0xFFFFFFFF, 0x4FFFFFFF].all
      (fun w => decode w = .illegalOp) = true := by decide
/-- DC-5, CF-8, SR-5, SE-3, SE-6, PW-15, PW-16. -/
theorem test_reserved_bits :
    [0x90000001#32, 0xB8000000, 0xC0000010, 0x10000001, 0x20010000, 0x30000040, 0x30000061, 0x80000001, 0xA0000100].all
      (fun w => decode w = .rsvdBits) = true := by decide

/-- R70: byte 0 is the low byte. -/
theorem test_bytes_little_endian : decodeBytes [0xCD, 0xAB, 0x00, 0x20] = some (.setrepeat 0xABCD) := by decide
/-- R85: one word is one instruction; three bytes are none. -/
theorem test_short_bytes : decodeBytes [0x00, 0x00, 0x10] = none := by decide
theorem test_table_word :
    decodeTableWord 32 0x3000003F = some (.send 63) ∧ decodeTableWord 32 0x00000000 = none := by decide

/-! ### The assembler (R87 to R90) -/

theorem test_asm_proto : asm "  proto 500,1,14,1,3,3,1,0 ; S8" =
    some [.wr .tickUs 0x000001F4, .wr .sync 0x000E0001, .wr .zero 0x00030001, .wr .one 0x00010003, .wr .pflags 0,
      .cmd 0x10000000] := by decide
theorem test_asm_tx : asm "l1: tx 0x44E585D3, 32" = some [.wr .code 0x44E585D3, .cmd 0x30000020] := by decide
theorem test_asm_timing : asm "wr SYNC, timing(1, 14)" = some [.wr .sync 0x000E0001] := by decide
theorem test_asm_refuses : asm "send 64" = none ∧ asm "wr FOO, 1" = none ∧ asm "nap 1" = none := by decide

/-! ### Vectors of 95_test_vectors -/

/-- CF-1 and CF-2. -/
theorem test_configure_status : ready.statusWord = 0x00000018 ∧ ready.dataOut = false ∧
    (nextOf (exec .configure { ready with inv := true })).map (·.statusWord) = some 0x00000008 := by decide
/-- CF-4. -/
theorem test_configure_bad_tick :
    (nextOf (exec .configure fresh)).map (fun t => (readReg .err t, t.statusWord)) = some (6, 0x00000410) := by decide
/-- CF-5 and CF-6. -/
theorem test_reserved_write_bits :
    readReg .tickUs (writeReg .tickUs 0x00012345 fresh) = 0x00002345 ∧
    readReg .pflags (writeReg .pflags 0xFFFFFFFF fresh) = 0x00000001 := by decide
/-- SR-2, SR-4. -/
theorem test_setrepeat :
    (nextOf (exec (.setrepeat 16) fresh)).map (readReg .repeatCount) = some 0x00000010 ∧
    (nextOf (exec (.setrepeat 0) fresh)).map (fun t => (readReg .repeatCount t, readReg .err t)) = some (0, 0) := by decide

/-- The levels of the pin writes of a transmission in progress. -/
def levels (s : State) : List Nat := (pinWrites s.seq).map fun k => (levelOf k s).toNat

/-- TX-1: the level string, the STATUS after SEND, 29 elements. -/
theorem test_send_program :
    levels sending = [1,1,1,0, 1,0,0,0, 1,1,1,0, 1,0,0,0,0,0,0,0,0,0,0,0,0,0,0, 0] ∧
    sending.statusWord = 0x0000001B ∧ sending.seq.length = 29 ∧ sending.ghost.sends = 1 := by decide
/-- TX-5 (an empty high segment) and TX-6 (an empty low one): kinds AAIIIIIIAIIIT and AAAIT. -/
theorem test_empty_segments :
    pinWrites (program { tickUs := 1, syncH := 1, syncL := 3, zeroH := 0, zeroL := 4, oneH := 2, oneL := 2, inv := false } 0b10 2 1)
      = [.act, .act, .idl, .idl, .idl, .idl, .idl, .idl, .act, .idl, .idl, .idl, .trail] ∧
    pinWrites (program { tickUs := 1, syncH := 1, syncL := 1, zeroH := 1, zeroL := 3, oneH := 2, oneL := 0, inv := false } 1 1 1)
      = [.act, .act, .act, .idl, .trail] := by decide
/-- L1-5: F = 143 and N = 2289. -/
theorem test_frame_ticks :
    frameTicks ready.active 0x44E585D3 32 = 143 ∧ sendConsumes ready.active 0x44E585D3 32 16 = 2289 := by decide
/-- SE-1, SE-4, SE-5, SE-11 and SE-7. -/
theorem test_send_errors :
    (nextOf (exec (.send 33) ready)).map (readReg .err) = some 3 ∧
    (nextOf (exec (.send 3) fresh)).map (readReg .err) = some 4 ∧
    (nextOf (exec (.send 33) fresh)).map (readReg .err) = some 3 ∧
    (nextOf (exec (.send 33) { fresh with err := .notConfigured })).map (readReg .err) = some 4 ∧
    (nextOf (exec (.send 3) { ready with active := { ready.active with syncH := 0, syncL := 0 } })).map (readReg .err)
      = some 5 := by decide
/-- SE-8, SE-9, SE-10. -/
theorem test_send_degenerate :
    isDegenerate { ready.active with zeroH := 0, zeroL := 0 } 0xFFFFFFFF 32 1 = false ∧
    isDegenerate { ready.active with zeroH := 0, zeroL := 0 } 0xFFFFFFFE 32 1 = true ∧
    isDegenerate { ready.active with syncH := 0, syncL := 0 } 5 3 0 = false := by decide

/-- PW-1, PW-2, PW-3. -/
theorem test_lowpower_armwake :
    (nextOf (exec .lowpower fresh)).map (·.statusWord) = some 0x00000010 ∧
    (nextOf (exec .armwake { fresh with pwr := lowPowerPwr })).map (·.statusWord) = some 0x00000190 ∧
    (nextOf (exec .armwake fresh)).map (·.statusWord) = some 0x00000090 := by decide
/-- PW-4, PW-5, PW-6. -/
theorem test_sleep_edge_wake :
    (nextOf (exec .sleep { ready with pwr := lowPowerPwr, wakeIe := true })).map
      (fun t => (t.statusWord, (edgeEvent t).statusWord, (nextOf (exec .wake (edgeEvent t))).map (·.statusWord)))
      = some (0x000002D8, 0x000003D8, some 0x00000198) := by decide
/-- PW-8, PW-9. -/
theorem test_halt :
    nextOf (exec .halt fresh) = some fresh ∧
    (nextOf (exec .halt { fresh with se := true })).map (·.pstate) = some 2 := by
  refine ⟨rfl, by decide⟩

/-- MA-6 and MA-7: the value read and ERR. -/
theorem test_bad_reads :
    (hostRead 0x06 .word fresh).1 = 0 ∧ readReg .err (hostRead 0x06 .word fresh).2 = 7 ∧
    readReg .err (hostRead 0x28 .word fresh).2 = 7 := by decide
/-- MA-5 and MA-8. -/
theorem test_bad_writes :
    (nextOf (step (hosting [.write (.bus 0x1020) .byte 0xAA] [.host] fresh))).map (fun t => (readReg .err t, t.code)) = some (7, 0) ∧
    (nextOf (step (hosting [.write (.bus 0x1000) .half 0x1000] [.host] fresh))).map
      (fun t => (readReg .err t, t.configured)) = some (7, false) := by decide
/-- EV-2 and EV-3. -/
theorem test_tick_event :
    (tickEvent sending).ghost.tickNo = 1 ∧ (tickEvent sending).ghost.lost = 0 ∧
    (tickEvent (tickEvent sending)).ghost.tickNo = 2 ∧ (tickEvent (tickEvent sending)).ghost.lost = 1 := by decide
/-- RS-2: a WDT reset during a send. -/
theorem test_wdt_reset :
    (nextOf (step (hosting [.rd .err] [.wdt] { sending with dataOut := true }))).map
      (fun t => (t.dataOut, t.busy, t.configured, t.ghost.resets, t.ghost.sends, t.env.todo.length))
      = some (false, false, false, 1, 1, 1) := by decide
/-- R201: the error codes, as ERR reads them after DC-1 and CF-8 and for the other errors. -/
theorem test_error_codes :
    (nextOf (command 0x00000000 fresh)).map (readReg .err) = some 1 ∧
    (nextOf (command 0x10000001 fresh)).map (readReg .err) = some 2 ∧
    [ErrCode.noError, .illegalOp, .rsvdBits, .badLength, .notConfigured, .degenerate, .badTick, .badAccess].map
      (fun c => (readReg .err { fresh with err := c }).toNat) = [0, 1, 2, 3, 4, 5, 6, 7] := by decide
/-- R246: the empty program ends at once; a program with a read that is refused at every P_BASE has a run that never ends. -/
theorem test_empty_program_ends : EndsWith [] fun _ => True := by
  intro start _ σ hf hp h0 _ _
  refine ⟨0, start, h0, ?_, trivial⟩
  obtain ⟨_, _, env, _, ht, _, rfl⟩ := hf
  exact ⟨ht.trans hp, ⟨rfl, rfl, rfl⟩, rfl, .inl rfl⟩
theorem test_refused_program_does_not_end : ¬ EndsWith [.read (.bus 0) .word, .read (.bus 0x40) .word] fun _ => True := by
  intro h
  have hf : (hosting [.read (.bus 0) .word, .read (.bus 0x40) .word] [] fresh).Fresh :=
    ⟨fresh.active, fresh.pwr, (hosting [.read (.bus 0) .word, .read (.bus 0x40) .word] [] fresh).env, by decide, rfl, rfl, rfl⟩
  obtain ⟨n, s, hn, hs, -⟩ := h _ (fun _ => .host) (fun n => if n = 0 then .next _ else .refused (.outsideWindow 0))
    hf rfl rfl
    (fun n => by cases n <;> rfl)
    ⟨fun n _ => ⟨n, Nat.le_refl n, rfl⟩, fun n h => by obtain ⟨_, h', _⟩ := h (n + 1) (by omega); simp at h',
      fun n h => by obtain ⟨_, h', _⟩ := h (n + 1) (by omega); simp at h'⟩
  by_cases h0 : n = 0
  · simp only [h0, if_true, Host.Outcome.next.injEq] at hn
    subst hn
    cases hs.1
  · simp [h0] at hn
/-- A placed word is the next step's command. -/
theorem test_placed_word :
    (nextOf (step (State.reset.withFetchWord 32 0x20000010))).map (readReg .repeatCount) = some 0x10 ∧
    (nextOf (step (sending.withFetchWord 32 0x90000000))).map (·.wakeIe) = some true := by decide

/-! ### Witnesses: the hypotheses of each obligation, met together -/

theorem test_witness_DecodeOfEncode :
    (Instr.setrepeat 0xFFFF).WellFormed = true ∧ (Instr.send 63).WellFormed = true ∧ Instr.wake.WellFormed = true := by decide

theorem test_witness_EncodeOfDecode : decode 0x2000FFFF = .cmd (.setrepeat 0xFFFF) ∧ decode 0xC0000000 = .cmd .wake := by decide

theorem test_witness_WordMatchesCommandMask : decode 0x90000001 = .rsvdBits ∧ decode 0x20010000 = .rsvdBits := by decide

theorem test_witness_IllegalOpcodesRecordError : decode 0x00000000 = .illegalOp ∧ decode 0xFFFFFFFF = .illegalOp := by decide

/-- The bounds of every clause, and the first value past each. -/
theorem test_witness_AssemblerExpansions :
    fitsWord 0xFFFFFFFF = true ∧ fitsCount 65535 = true ∧ fitsFlag 1 = true ∧ fitsLength 63 = true ∧
    65535 < 65536 ∧ 63 < 64 ∧ 0xFFFFFFFF < 0x100000000 := by decide

/-- Both address forms, and the three outcomes of a word. -/
theorem test_witness_StepRunsDecodedCommand :
    [(HostAddr.window 0, 0x30000003#32), (.bus 0x1000, 0xA0000000), (.bus 0x1000, 0x00000000), (.window 0, 0x90000001)].all
      (fun x =>
        let s := hosting [.write x.1 .word x.2, .rd .err] [.host] ready
        s.nextAgent = .host ∧ s.halted = false ∧ s.busy = false ∧ s.env.todo = .write x.1 .word x.2 :: [.rd .err] ∧
          x.1.offset? s.env.base = some 0x00#6) = true := by decide

theorem test_witness_CmdWriteHoldsWhileBusy :
    let s := hosting [.cmd 0x20000002] [.host] sending
    s.nextAgent = .host ∧ s.busy = true ∧ s.env.todo = [.write (.window 0) .word 0x20000002] ∧
      (HostAddr.window 0).offset? s.env.base = some 0x00#6 := by decide

/-- A halted host, a host whose program is over, a held CMD write, a waiting engine, a disarmed timer, a disabled watchdog. -/
theorem test_witness_DisabledAgentHolds :
    [hosting [.rd .err] [.host] { fresh with halted := true }, hosting [] [.host] fresh,
      hosting [.cmd 0x20000002] [.host] sending, hosting [] [.engine] sending, hosting [] [.tick] fresh,
      hosting [] [.wdt] { fresh with pwr := lowPowerPwr }].all (fun s => s.enabled s.nextAgent = false) = true := by decide

/-- The first and the last address of the window, and those just outside it. -/
theorem test_witness_WindowAddressing :
    (HostAddr.bus 0x1000).offset? 0x1000 = some 0 ∧ (HostAddr.bus 0x103F).offset? 0x1000 = some 0x3F ∧
    (HostAddr.bus 0x0FFF).offset? 0x1000 = none ∧ (HostAddr.bus 0x1040).offset? 0x1000 = none ∧
    (let s := hosting [.read (.bus 0x0FFF) .word] [.host] fresh;
      s.nextAgent = .host ∧ s.halted = false ∧ 0x0FFF < s.env.base ∧ s.env.todo = [.read (.bus 0x0FFF) .word]) ∧
    (let s := hosting [.write (.bus 0x1040) .word 1] [.host] fresh;
      s.nextAgent = .host ∧ s.halted = false ∧ s.env.base + 0x40 ≤ 0x1040 ∧ s.env.todo = [.write (.bus 0x1040) .word 1]) := by
  decide

/-- A narrow access, a misaligned one and the first unmapped offset, each read and written. -/
theorem test_witness_BadAccessRecordsOnly :
    [(HostAddr.window 0x20, Width.byte), (.window 0x20, .half), (.window 0x06, .word), (.bus 0x1028, .word),
        (.window 0x3F, .byte)].all
      (fun x =>
        let s := hosting [.read x.1 x.2] [.host] fresh
        let t := hosting [.write x.1 x.2 1] [.host] fresh
        s.nextAgent = .host ∧ s.halted = false ∧ s.env.todo = [.read x.1 x.2] ∧ t.env.todo = [.write x.1 x.2 1] ∧
          (∃ off ∈ [0x20#6, 0x06, 0x28, 0x3F], x.1.offset? s.env.base = some off ∧
            (x.2 ≠ .word ∨ off.toNat % 4 ≠ 0 ∨ 0x24 < off.toNat))) = true := by decide

/-- Every register at its offset of R23, read while a transmission is in progress, by a window address and by a bus address. -/
theorem test_witness_ReadReturnsRegister :
    [(Reg.cmd, 0x00#6), (.status, 0x04), (.err, 0x08), (.tickUs, 0x0C), (.sync, 0x10), (.zero, 0x14), (.one, 0x18),
        (.pflags, 0x1C), (.code, 0x20), (.repeatCount, 0x24)].all
      (fun x =>
        let s := hosting [.read (.bus (0x1000 + x.2.toNat)) .word] [.host] sending
        x.1.offset = x.2 ∧ s.nextAgent = .host ∧ s.halted = false ∧
          s.env.todo = [.read (.bus (0x1000 + x.2.toNat)) .word] ∧ (HostAddr.window x.2).offset? s.env.base = some x.2 ∧
          (HostAddr.bus (0x1000 + x.2.toNat)).offset? s.env.base = some x.2) = true := by decide

theorem test_witness_ReadOnlyWriteIgnored :
    [0x04#6, 0x08, 0x24].all
      (fun off =>
        let s := hosting [.write (.window off) .word 0xFFFFFFFF] [.host] fresh
        s.nextAgent = .host ∧ s.halted = false ∧ s.env.todo = [.write (.window off) .word 0xFFFFFFFF] ∧
          (HostAddr.window off).offset? s.env.base = some off) = true := by decide

theorem test_witness_StagedWriteReadsBack :
    [0x0C#6, 0x10, 0x14, 0x18, 0x1C, 0x20].all
      (fun off =>
        let s := hosting [.write (.window off) .word 0xFFFFFFFF] [.host] sending
        s.nextAgent = .host ∧ s.halted = false ∧ s.env.todo = [.write (.window off) .word 0xFFFFFFFF] ∧
          (HostAddr.window off).offset? s.env.base = some off) = true := by decide

/-- A state for each clause of PSTATE; SLEEPING comes before WOKEN. -/
theorem test_witness_PowerStateRule :
    ({ fresh with halted := true, se := true } : State).pstate = 2 ∧ ({ fresh with se := true } : State).pstate = 3 ∧
    ({ fresh with pwr := lowPowerPwr, wakeIe := true } : State).pstate = 1 ∧
    ({ sending with pwr := lowPowerPwr, wakeIe := true } : State).pstate = 0 := by decide

theorem test_witness_ConfigureInstalls : staged.tickUs ≠ 0#16 ∧ ({ staged with tickUs := 1 } : State).tickUs ≠ 0#16 := by decide

theorem test_witness_ConfigureRejectsZeroTick : fresh.tickUs = 0#16 := by decide

theorem test_witness_LevelLaw : staged.tickUs ≠ 0#16 ∧ ({ staged with inv := true } : State).tickUs ≠ 0#16 := by decide

theorem test_witness_ConfigurationIdempotent : staged.tickUs ≠ 0#16 := by decide

/-- Lengths 0 and 32. -/
theorem test_witness_SendStarts :
    [0#6, 32#6].all (fun len => len.toNat ≤ 32 ∧ ready.configured = true ∧
      isDegenerate ready.active ready.code len.toNat ready.repeatN.toNat = false) = true := by decide

/-- Each error, at the boundary length where there is one. -/
theorem test_witness_SendErrorsInOrder :
    32 < (33#6).toNat ∧ (32#6).toNat ≤ 32 ∧ fresh.configured = false ∧ ready.configured = true ∧
    isDegenerate { ready.active with syncH := 0, syncL := 0 } ready.code 0 1 = true := by decide

theorem test_witness_DegenerateExactly :
    ready.configured = true ∧ isDegenerate { ready.active with oneH := 0, oneL := 0 } 0x80000000 32 1 = true ∧
    isDegenerate { ready.active with oneH := 0, oneL := 0 } 0x80000000 31 1 = false := by decide

theorem test_witness_FrameTickCounts : 32 ≤ 32 ∧ sendConsumes ready.active 0 32 0xFFFF < 2 ^ 39 := by decide

theorem test_witness_HighCodeBitsNotSent : ∀ i : Nat, i < 2 → (0xFFFFFFFD#32).getLsbD i = (0x00000001#32).getLsbD i := by decide

theorem test_witness_ZeroRepeatsAndZeroLength :
    ({ ready with repeatN := 0 } : State).configured = true ∧ (32#6).toNat ≤ 32 ∧
    isDegenerate ready.active ready.code 0 ready.repeatN.toNat = false := by decide

/-- TX-6's protocol, which has an empty segment, and no repeats at all. -/
theorem test_witness_CounterRealisationEmitsProgram :
    isDegenerate { ready.active with syncL := 1, oneH := 2, oneL := 0 } 1 1 1 = false ∧
    isDegenerate ready.active 5 3 0 = false := by decide

/-- An ACT and an IDL unit, each with the flag clear and with it set. -/
theorem test_witness_LevelUnitStep :
    [(Kind.act, false), (.act, true), (.idl, false), (.idl, true)].all
      (fun x =>
        let s : State := { hosting [] [.engine] sending with seq := [.write x.1, .write .trail, .disarm], tickFlag := x.2 }
        s.nextAgent = .engine ∧ s.busy = true ∧ s.seq = .write x.1 :: [.write .trail, .disarm] ∧ x.1 ≠ .trail ∧
          s.tickFlag = x.2) = true := by decide

/-- Both flags and both end levels. -/
theorem test_witness_TrailingTickStep :
    [(EndLevel.idle, false), (.idle, true), (.low, true)].all
      (fun x =>
        let s := hosting [] [.engine] { trailing with tickFlag := x.2, env := { trailing.env with endLevel := x.1 } }
        s.nextAgent = .engine ∧ s.busy = true ∧ s.seq = .write .trail :: [.disarm] ∧ s.tickFlag = x.2 ∧
          s.env.endLevel = x.1) = true := by decide

theorem test_witness_DisarmStep :
    let s : State := { hosting [] [.engine] trailing with seq := [.disarm] }
    s.nextAgent = .engine ∧ s.busy = true ∧ s.seq = [.disarm] := by decide

theorem test_witness_TickEventStep :
    (hosting [] [.tick] fresh).nextAgent = .tick ∧ fresh.tickArmed = false ∧ sending.tickArmed = true ∧
    (hosting [] [.tick] sending).nextAgent = .tick := by decide

theorem test_witness_EdgeEventStep :
    (hosting [] [.edge] fresh).nextAgent = .edge ∧ fresh.wakeIe = false ∧
    (hosting [] [.edge] { fresh with wakeIe := true, se := true, halted := true }).nextAgent = .edge := by decide

theorem test_witness_WatchdogReset :
    (hosting [] [.wdt] fresh).nextAgent = .wdt ∧ fresh.pwr.wdtEn = true ∧ lowPowerPwr.wdtEn = false := by decide

theorem test_witness_LowPowerApplies : fresh.halted = false ∧ fresh.se = false ∧ fresh.tickArmed = false := by decide

theorem test_witness_ArmWakeArms :
    let s : State := { fresh with pwr := lowPowerPwr }
    s.halted = false ∧ s.se = false ∧ s.tickArmed = false ∧ s.pwr.lpcfg = true := by decide

theorem test_witness_HaltHaltsWhileLatched : ({ fresh with se := true } : State).se = true ∧ fresh.se = false := by decide

theorem test_witness_WakeClearsLatch :
    let s : State := { fresh with se := true }
    s.halted = false ∧ s.tickArmed = false ∧ s.se = true := by decide

theorem test_witness_PowerCommandsIdempotent :
    let s : State := { fresh with se := true, wakeIe := true }
    s.se = true ∧ s.wakeIe = true := by decide

theorem test_witness_StateSurvivesSleep :
    (∃ t, exec .sleep ready = .next t) ∧ ∃ t, exec .halt { ready with se := true } = .next t := ⟨⟨_, rfl⟩, ⟨_, rfl⟩⟩

/-- PW-1 to PW-6 in one run from reset: the program and the schedule of the statement. -/
def cycling : State :=
  hosting [.cmd 0x80000000, .cmd 0x90000000, .cmd 0xA0000000, .cmd 0xC0000000] [.host, .host, .host, .edge, .host] fresh

theorem test_witness_PowerStateCycle :
    cycling.busy = false ∧ cycling.tickArmed = false ∧ cycling.halted = false ∧ cycling.se = false ∧
    cycling.wakeIe = false ∧ cycling.pwr.lpcfg = false := by decide

/-- A pin write, a SEND, a DISARM and a reset, which write the pin or the timer. -/
theorem test_witness_PinAndTimerOwnership :
    (nextOf (step (hosting [] [.engine] { sending with tickFlag := true }))).map (·.dataOut) = some true ∧
    (nextOf (step (hosting [.cmd 0x30000003] [.host] ready))).map (·.tickArmed) = some true ∧
    (nextOf (step (hosting [] [.engine] { sending with seq := [.disarm] }))).map (·.tickArmed) = some false ∧
    (nextOf (step (hosting [] [.wdt] { sending with dataOut := true }))).map (fun t => (t.dataOut, t.tickArmed))
      = some (false, false) := by decide

/-- The flag set by a tick, cleared by a consume, cleared by a reset. -/
theorem test_witness_TickFlagWriters :
    (nextOf (step (hosting [] [.tick] sending))).map (·.tickFlag) = some true ∧ sending.tickFlag = false ∧
    (nextOf (step (hosting [] [.engine] { sending with tickFlag := true }))).map (·.tickFlag) = some false ∧
    (nextOf (step (hosting [] [.wdt] { sending with tickFlag := true }))).map (·.tickFlag) = some false := by decide

/-- An error recorded, and one cleared by a reset with FAULT kept (RS-3). -/
theorem test_witness_ErrorRegisterWriters :
    (nextOf (step (hosting [.cmd 0] [.host] fresh))).map (fun t => (t.err, t.ghost.faultMark)) = some (.illegalOp, true) ∧
    (nextOf (step (hosting [] [.wdt] { fresh with err := .notConfigured, ghost := { fresh.ghost with faultMark := true } }))).map
      (fun t => (t.err, t.ghost.faultMark)) = some (.noError, true) := by decide

theorem test_witness_OnlyEdgeOrResetEndsSleep :
    (nextOf (step (hosting [] [.edge] { fresh with halted := true, se := true, wakeIe := true }))).map (·.halted) = some false ∧
    (nextOf (step (hosting [] [.wdt] { fresh with halted := true, se := true }))).map (·.halted) = some false := by decide

/-- SLEEP, and HALT with SE = 1, each followed by an EDGE event. -/
theorem test_witness_UnarmedSleepNeverEnds :
    (∃ t u, fresh.wakeIe = false ∧ exec .sleep (hosting [.rd .err] [.edge] fresh) = .next t ∧ step t = .next u ∧
      Reaches t u ∧ u.ghost.resets = t.ghost.resets) ∧
    (∃ t u, ({ fresh with se := true } : State).se = true ∧ exec .halt (hosting [.rd .err] [.edge] { fresh with se := true }) = .next t ∧
      step t = .next u ∧ Reaches t u ∧ u.ghost.resets = t.ghost.resets) :=
  ⟨⟨_, _, rfl, rfl, rfl, .tail .refl rfl, rfl⟩, ⟨_, _, rfl, rfl, rfl, .tail .refl rfl, rfl⟩⟩

/-- An EDGE event reaches a state with the same counts. -/
theorem test_witness_TransmissionWithoutTicksHolds :
    ∃ t rest, sending.busy = true ∧ sending.seq = .write .act :: rest ∧ sending.tickFlag = false ∧
      Reaches (hosting [] [.edge] sending) t ∧ t.ghost = sending.ghost :=
  ⟨_, _, rfl, rfl, rfl, .tail .refl rfl, rfl⟩

theorem test_witness_NoCancellation :
    sending.busy = true ∧ (nextOf (step (hosting [.wr .code 2] [.host] sending))).map (·.code) = some 2 ∧
    (nextOf (step (hosting [] [.wdt] { sending with pwr := lowPowerPwr }))).map (·.busy) = some true := by decide

/-- A tick taken, a tick lost and a consume. -/
theorem test_witness_TickAccounting :
    (nextOf (step (hosting [] [.tick] sending))).map (fun t => (t.ghost.tickNo, t.ghost.lost)) = some (1, 0) ∧
    (nextOf (step (hosting [] [.tick] { sending with tickFlag := true }))).map (fun t => (t.ghost.tickNo, t.ghost.lost))
      = some (1, 1) ∧
    (nextOf (step (hosting [] [.engine] { sending with tickFlag := true }))).map
      (fun t => (t.ghost.wave.length, t.ghost.sends, t.ghost.resets)) = some (1, 1, 0) := by decide

/-- The three invariants in a state with a transmission in progress, and a step from it. -/
theorem test_witness_InvariantKeptByEveryStep :
    sending.Inv ∧ sending.TickInv ∧ sending.ErrInv ∧ ∃ t, step (hosting [] [.tick] sending) = .next t := by
  refine ⟨?_, ⟨by decide, by decide⟩, by unfold State.ErrInv; decide, _, rfl⟩
  constructor <;> decide

theorem test_witness_LowPowerConfigEndsResets :
    let s : State := hosting [.rd .err] [.host] { fresh with pwr := lowPowerPwr }
    s.PwrInv ∧ s.pwr.lpcfg = true ∧ ∃ t, step s = .next t ∧ Reaches s t :=
  ⟨fun _ => rfl, rfl, _, rfl, .tail .refl rfl⟩

theorem test_witness_StaleFlagFiresFirstUnit :
    ∃ t, exec (.send 3) { ready with tickFlag := true } = .next t ∧ ready.busy = false ∧ t.busy = true ∧ t.tickFlag = true :=
  ⟨_, rfl, rfl, rfl, rfl⟩

/-- After one tick, and no loss, reset or further SEND. -/
theorem test_witness_TickExactness :
    ready.busy = false ∧ ready.tickFlag = false ∧ ∃ t u, exec (.send 3) (hosting [] [.tick] ready) = .next t ∧ t.busy = true ∧
      Reaches t u ∧ NoLoss t u ∧ u.ghost.resets = t.ghost.resets ∧ u.ghost.sends = t.ghost.sends :=
  ⟨rfl, rfl, _, _, rfl, rfl, .tail .refl rfl, rfl, rfl, rfl⟩

/-- A SEND with no repeats: one tick, one consume, one DISARM, then the state the statement gives. -/
theorem test_witness_IdealScheduleCompletesSend :
    (∃ t, exec (.send 3) { ready with repeatN := 0 } = .next t ∧ ready.tickFlag = false ∧ t.busy = true ∧ ready.busy = false) ∧
    (nextOf (Host.Core.run core 3 (hosting [] (idealSchedule 1) trailing))).map
      (fun t => (t.busy, t.ghost.tickNo, t.ghost.wave)) = some (false, 1, [⟨1, 1, false, .trail⟩]) := by
  refine ⟨⟨_, rfl, rfl, rfl, rfl⟩, by decide⟩

/-- TX-1 and TX-2: S8 and S8i, the same transmission in progress. -/
def inverted (s : State) : State :=
  { s with active := { s.active with inv := !s.active.inv }, actLvl := !s.actLvl }

theorem test_witness_InversionLaw :
    InvertedPair [] [] ready (inverted ready) ∧ InvertedPair [] [] sending (inverted sending) ∧ sending.busy = true ∧
    ∃ t, step (hosting [] [.tick] sending) = .next t :=
  ⟨⟨rfl, rfl, rfl, [], [], rfl, rfl, .nil⟩, ⟨rfl, rfl, rfl, [], [], rfl, rfl, .nil⟩, rfl, _, rfl⟩

end Sys2Proof.Tests
end

section
/-! PROOFS. The scope family (00_scope): an agent with no enabled step changes nothing. -/

namespace Sys2Proof.Machine

/-- Choosing an agent enables and disables none. -/
@[simp] theorem afterPick_enabled (a : Agent) (s : State) : s.afterPick.enabled a = s.enabled a := by
  unfold State.afterPick; split <;> rfl

/-- R69: the host's next operation is a CMD write where it reaches the CMD register. -/
theorem cmdWriteNext_iff {s : State} : s.cmdWriteNext = true ↔
    ∃ a n v rest off, s.env.todo = .write a n v :: rest ∧ a.offset? s.env.base = some off ∧ admitted off n = some .cmd := by
  unfold State.cmdWriteNext
  split
  · simp [Option.bind_eq_some_iff, *]
  · rename_i hw
    simp only [Bool.false_eq_true, false_iff]
    rintro ⟨a, n, v, rest, -, ht, -⟩
    exact hw a n v rest ht

/-- R69: a CMD write while BUSY = 1 leaves the state as it is. -/
theorem writeAccess_cmd_of_busy {s : State} {a : HostAddr} {n : Width} {off : BitVec 6} (v : Word) (rest : List HostOp)
    (hoff : a.offset? s.env.base = some off) (had : admitted off n = some .cmd) (hb : s.busy = true) :
    writeAccess a n v rest s = .next s := by
  simp [writeAccess, hoff, had, hb]

/-- A halted host (R45, R78) does nothing. -/
theorem hostStep_of_halted {s : State} (h : s.halted = true) : hostStep s = .next s := by
  simp [hostStep, h]

/-- A host at the end of its program (R246) does nothing. -/
theorem hostStep_of_todo_nil {s : State} (h : s.env.todo = []) : hostStep s = .next s := by
  simp [hostStep, h]

/-- A host before a CMD write does nothing while BUSY = 1 (R69), halted or not. -/
theorem hostStep_of_cmdWriteNext {s : State} (hb : s.busy = true) (hc : s.cmdWriteNext = true) : hostStep s = .next s := by
  obtain ⟨a, n, v, rest, off, ht, hoff, had⟩ := cmdWriteNext_iff.mp hc
  simp [hostStep, ht, writeAccess_cmd_of_busy v rest hoff had hb]

theorem hostStep_of_disabled {s : State} (h : s.enabled .host = false) : hostStep s = .next s := by
  have hcases : s.halted = true ∨ s.env.todo = [] ∨ s.busy = true ∧ s.cmdWriteNext = true := by
    simpa [State.enabled, imp_iff_not_or, or_assoc] using h
  obtain hh | ht | ⟨hb, hc⟩ := hcases
  · exact hostStep_of_halted hh
  · exact hostStep_of_todo_nil ht
  · exact hostStep_of_cmdWriteNext hb hc

theorem engineStep_of_disabled {s : State} (h : s.enabled .engine = false) : engineStep s = s := by
  cases hb : s.busy with
  | false => simp [engineStep, hb]
  | true =>
    match hs : s.seq with
    | [] => simp [engineStep, hs]
    | .write _ :: _ =>
      have hf : s.tickFlag = false := by simpa [State.enabled, hb, hs] using h
      simp [engineStep, hs, hf]
    | .disarm :: _ => simp [State.enabled, hb, hs] at h

/-- R7: an agent with no enabled step leaves the state as it is (log entry 3). EDGE always has one (R209). -/
theorem agentStep_of_disabled {a : Agent} {s : State} (h : s.enabled a = false) : agentStep a s = .next s := by
  cases a with
  | host => exact hostStep_of_disabled h
  | engine => simp only [agentStep, engineStep_of_disabled h]
  | tick =>
    have hr : s.tickArmed = false := h
    simp [agentStep, tickEvent, hr]
  | edge => cases h
  | wdt =>
    have hw : s.pwr.wdtEn = false := h
    simp [agentStep, wdtEvent, hw]

/-- Settles O9: the chosen agent is as disabled after the choice as before it, and the choice is all that the step does. -/
theorem disabledAgentHolds : Obligations.DisabledAgentHolds := by
  refine ⟨fun s h => ?_, afterPick_eq, fun s a rest h => ⟨nextAgent_cons h, afterPick_cons h⟩⟩
  exact agentStep_of_disabled ((afterPick_enabled s.nextAgent s).trans h)

end Sys2Proof.Machine
end

section
/-! PROOFS. The state family (10_state), the invariants of R48: SEQ's shape, the tick count, ERR with FAULT, and PWR. -/

namespace Sys2Proof.Machine

/-! ### The shape of SEQ (R121) -/

/-- Level units before TRAIL and DISARM have the shape of a transmission in progress. -/
theorem seqShape_levels_append {us : List Elem} (h : ∀ e ∈ us, e = .write .act ∨ e = .write .idl) :
    seqShape (us ++ [.write .trail, .disarm]) = true := by
  induction us with
  | nil => rfl
  | cons e us ih =>
    obtain ⟨he, hus⟩ := List.forall_mem_cons.mp h
    have hne : us ++ [.write .trail, .disarm] ≠ [.disarm] := fun heq => by simpa using congrArg List.length heq
    obtain rfl | rfl := he <;> simp [seqShape, hne, ih hus]

/-- R124: a frame is made of level units. -/
theorem mem_frame_levels {p : Protocol} {c : Word} {l : Nat} {e : Elem} (he : e ∈ frame p c l) :
    e = .write .act ∨ e = .write .idl := by
  have hunits : ∀ t : Half × Half, e ∈ units t → e = .write .act ∨ e = .write .idl := fun t ht =>
    (List.mem_append.mp ht).imp List.eq_of_mem_replicate List.eq_of_mem_replicate
  obtain hbits | hsync := List.mem_append.mp he
  · obtain ⟨b, -, hb⟩ := List.mem_flatMap.mp hbits
    exact hunits _ hb
  · exact hunits _ hsync

/-- The program of a SEND has the shape of a transmission in progress. -/
theorem seqShape_program (p : Protocol) (c : Word) (l n : Nat) : seqShape (program p c l n) = true := by
  refine seqShape_levels_append fun e he => ?_
  obtain ⟨f, hf, hef⟩ := List.mem_flatten.mp he
  rw [List.eq_of_mem_replicate hf] at hef
  exact mem_frame_levels hef

/-- What is left after a pin write has the shape of a transmission in progress. -/
theorem seqShape_of_write_cons {k : Kind} {rest : List Elem} (h : seqShape (.write k :: rest) = true) :
    seqShape rest = true := by
  cases k with
  | act => exact (Bool.and_eq_true_iff.mp h).2
  | idl => exact (Bool.and_eq_true_iff.mp h).2
  | trail =>
    have hrest : rest = [.disarm] := by simpa [seqShape] using h
    rw [hrest]; rfl

/-! ### Items 1 to 5 of R48 -/

/-- The invariant speaks of the timer, the transmission, the halt, the configuration and P_BASE alone. -/
theorem State.Inv.congr {s t : State} (hs : s.Inv)
    (h : t.tickArmed = s.tickArmed ∧ t.busy = s.busy ∧ t.seq = s.seq ∧ t.halted = s.halted ∧ t.se = s.se ∧
      t.configured = s.configured ∧ t.actLvl = s.actLvl ∧ t.active = s.active ∧ t.env.base = s.env.base) : t.Inv := by
  obtain ⟨harmed, hbusy, hseq, hhalted, hse, hconf, hlvl, hact, hbase⟩ := h
  constructor <;> simp only [harmed, hbusy, hseq, hhalted, hse, hconf, hlvl, hact, hbase]
  exacts [hs.armed_iff_busy, hs.seq_busy, hs.seq_idle, hs.halted_se, hs.configured_level, hs.busy_configured,
    hs.base_aligned]

/-- A command, which runs while the host is not halted and BUSY = 0 (R69, R78), keeps items 1 to 5. -/
theorem State.Inv.command {s t : State} {i : Instr} (hs : s.Inv) (hh : s.halted = false) (hb : s.busy = false)
    (h : CommandChange s i t) : t.Inv := by
  cases h with
  | configure ht => exact { hs with configured_level := fun _ => ⟨rfl, ht⟩, busy_configured := fun _ => rfl }
  | send len hl hc hd =>
    exact { hs with
      armed_iff_busy := rfl
      seq_busy := fun _ => seqShape_program ..
      seq_idle := by simp
      halted_se := by simp [hh]
      busy_configured := fun _ => hc }
  | sleep => exact { hs with halted_se := fun _ => ⟨rfl, hb⟩ }
  | halt => exact { hs with halted_se := fun hhalt => ⟨by simpa [hh] using hhalt, hb⟩ }
  | wake => exact { hs with halted_se := by simp [hh] }
  | _ => exact hs.congr (by simp)

/-- R48: every step keeps items 1 to 5. -/
theorem State.Inv.step {s t : State} (hs : s.Inv) (h : step s = .next t) : t.Inv := by
  cases step_next h with
  | command ha hh hb op rest ho i hi _ ht =>
    have hu : (s.afterPick.advance rest).Inv := hs.congr (by simp)
    exact hu.command (by simp [hh]) (by simp [hb]) ht
  | consume ha hb k rest hseq hf =>
    have hshape : seqShape (.write k :: rest) = true := hseq ▸ hs.seq_busy hb
    have hp : s.afterPick.Inv := hs.congr (by simp)
    exact { hp with
      seq_busy := fun _ => seqShape_of_write_cons hshape
      seq_idle := by simp [hb] }
  | disarm ha hb rest hseq =>
    have hp : s.afterPick.Inv := hs.congr (by simp)
    exact { hp with
      armed_iff_busy := rfl
      seq_busy := by simp
      seq_idle := fun _ => rfl
      halted_se := fun hhalt => ⟨(hp.halted_se hhalt).1, rfl⟩
      busy_configured := by simp }
  | edge ha =>
    have hp : s.afterPick.Inv := hs.congr (by simp)
    exact { hp with halted_se := fun hhalt => hp.halted_se (Bool.and_eq_true_iff.mp hhalt).1 }
  | reset ha hw => constructor <;> simp [hs.base_aligned]
  | _ => exact hs.congr (by simp)

/-! ### The tick count (R48 item 6 while BUSY = 1) -/

/-- The tick count speaks of the records, the sends, BUSY, the tick flag and the ticks alone. -/
theorem State.TickInv.congr {s t : State} (hs : s.TickInv)
    (h : t.ghost.wave = s.ghost.wave ∧ t.ghost.sends = s.ghost.sends ∧ t.busy = s.busy ∧ t.tickFlag = s.tickFlag ∧
      t.ghost.tickNo = s.ghost.tickNo) : t.TickInv := by
  obtain ⟨hwave, hsends, hbusy, hflag, htick⟩ := h
  simpa only [State.TickInv, State.consumes, hwave, hsends, hbusy, hflag, htick] using hs

/-- With no transmission in progress only the bound on the records' sends is claimed. -/
theorem State.TickInv.of_idle {s t : State} (hs : s.TickInv) (hb : t.busy = false)
    (hwave : t.ghost.wave = s.ghost.wave) (hsends : t.ghost.sends = s.ghost.sends) : t.TickInv :=
  ⟨by rw [hwave, hsends]; exact hs.1, by simp [hb]⟩

/-- A pin write is one more consume of the send in progress. -/
theorem consumes_consume (k : Kind) (rest : List Elem) (s : State) :
    (consume k rest s).consumes = s.consumes + 1 := by
  simp [State.consumes]

/-- R120: a SEND that starts has consumed nothing, as no record is of a later send than the last. -/
theorem consumes_startSend {s : State} (us : List Elem) (hs : ∀ r ∈ s.ghost.wave, r.send ≤ s.ghost.sends) :
    (startSend us s).consumes = 0 := by
  have hnone : ∀ r ∈ s.ghost.wave, ¬r.send = s.ghost.sends + 1 := fun r hr => by have := hs r hr; omega
  simpa [State.consumes] using hnone

theorem State.TickInv.startSend {s : State} (us : List Elem) (hs : s.TickInv) : (startSend us s).TickInv := by
  refine ⟨fun r hr => Nat.le_succ_of_le (hs.1 r hr), fun _ => ?_⟩
  rw [consumes_startSend us hs.1]
  simpa using Bool.toNat_le s.tickFlag

theorem State.TickInv.consume {s : State} (k : Kind) (rest : List Elem) (hs : s.TickInv) (hf : s.tickFlag = true) :
    (consume k rest s).TickInv := by
  obtain ⟨hrecords, hcount⟩ := hs
  refine ⟨fun r hr => ?_, fun hb => ?_⟩
  · obtain hold | rfl : r ∈ s.ghost.wave ∨ r = _ := by simpa using hr
    · exact hrecords r hold
    · exact le_rfl
  · rw [consumes_consume]
    simpa [hf] using hcount hb

theorem State.TickInv.takeTick {s : State} (hs : s.TickInv) : (takeTick s).TickInv := by
  refine ⟨hs.1, fun hb => ?_⟩
  have hold : s.consumes + s.tickFlag.toNat ≤ s.ghost.tickNo + 1 := hs.2 hb
  show s.consumes + 1 ≤ s.ghost.tickNo + 1 + 1
  omega

/-- R48 item 6: every step keeps the tick count of a transmission in progress. -/
theorem State.TickInv.step {s t : State} (hs : s.TickInv) (h : step s = .next t) : t.TickInv := by
  have hp : s.afterPick.TickInv := hs.congr (by simp)
  cases step_next h with
  | command ha hh hb op rest ho i hi _ ht =>
    have hu : (s.afterPick.advance rest).TickInv := hs.congr (by simp)
    cases ht with
    | send => exact hu.startSend _
    | _ => exact hu.congr (by simp)
  | consume ha hb k rest hseq hf => exact hp.consume k rest (by simp [hf])
  | disarm => exact hp.of_idle rfl rfl rfl
  | tick => exact hp.takeTick
  | reset => exact hp.of_idle rfl rfl rfl
  | _ => exact hs.congr (by simp)

/-! ### ERR and FAULT (R202, R204) -/

/-- A command leaves ERR and FAULT, or it records an error and does nothing else (R202). -/
theorem CommandChange.err_cases {s t : State} {i : Instr} (h : CommandChange s i t) :
    (t.err = s.err ∧ t.ghost.faultMark = s.ghost.faultMark) ∨ ∃ c, c ≠ .noError ∧ t = raiseErr c s := by
  cases h with
  | badTick | badLength | notConfigured | degenerate => exact .inr ⟨_, by decide, rfl⟩
  | _ => exact .inl (by simp)

/-- The writers of ERR and FAULT: the host may record an error, and a reset clears ERR alone (R202, R204, R240). -/
theorem step_err_cases {s t : State} (h : step s = .next t) :
    (t.err = s.err ∧ t.ghost.faultMark = s.ghost.faultMark) ∨
      (s.nextAgent = .host ∧ ∃ c, c ≠ .noError ∧ t.err = (raiseErr c s).err ∧
        t.ghost.faultMark = (raiseErr c s).ghost.faultMark) ∨
      (s.nextAgent = .wdt ∧ s.pwr.wdtEn = true ∧ t.err = .noError ∧ t.ghost.faultMark = s.ghost.faultMark) := by
  cases step_next h with
  | badRead ha | badWrite ha => exact .inr (.inl ⟨ha, .badAccess, by decide, by simp⟩)
  | badCommand ha hh hb c hc => exact .inr (.inl ⟨ha, c, hc, by simp⟩)
  | command ha hh hb op rest ho i hi _ ht =>
    obtain hsame | ⟨c, hc, rfl⟩ := ht.err_cases
    · exact .inl (by simpa using hsame)
    · exact .inr (.inl ⟨ha, c, hc, by simp⟩)
  | reset ha hw => exact .inr (.inr ⟨ha, hw, rfl, by simp⟩)
  | _ => exact .inl (by simp)

/-- R204: after a recorded error FAULT is set where an error stands. -/
theorem State.ErrInv.raiseErr {s : State} (hs : s.ErrInv) (c : ErrCode) : (raiseErr c s).ErrInv := by
  intro herr
  by_cases hfirst : s.err = .noError
  · simp [hfirst]
  · simpa [hfirst] using hs hfirst

/-- R204: every step keeps FAULT set wherever an error stands. -/
theorem State.ErrInv.step {s t : State} (hs : s.ErrInv) (h : step s = .next t) : t.ErrInv := by
  unfold State.ErrInv
  obtain ⟨herr, hfault⟩ | ⟨-, c, -, herr, hfault⟩ | ⟨-, -, herr, -⟩ := step_err_cases h
  · rw [herr, hfault]; exact hs
  · rw [herr, hfault]; exact hs.raiseErr c
  · simp [herr]

/-- Settles O54: each of the three invariants is kept by itself. -/
theorem invariantKeptByEveryStep : Obligations.InvariantKeptByEveryStep :=
  fun _ _ h => ⟨fun hs => hs.step h, fun hs => hs.step h, fun hs => hs.step h⟩

/-- Settles O48: the writers of ERR and FAULT. -/
theorem errorRegisterWriters : Obligations.ErrorRegisterWriters := by
  intro s t h
  obtain ⟨herr, hfault⟩ | ⟨ha, c, -, herr, hfault⟩ | ⟨ha, hw, herr, hfault⟩ := step_err_cases h
  · exact ⟨fun hne => absurd herr hne, fun hs => hfault.trans hs⟩
  · refine ⟨fun hne => ?_, fun hs => by simp [hfault, hs]⟩
    have hfirst : s.err = .noError := by
      by_contra hlater
      exact hne (by rw [herr, raiseErr_later c hlater])
    exact .inl ⟨hfirst, ha, by simp [hfault, hfirst]⟩
  · exact ⟨fun _ => .inr ⟨herr, ha, hw⟩, fun hs => hfault.trans hs⟩

/-! ### The power configuration (R42, R160, R219) -/

/-- The writers of PWR: ENTER_LOW_POWER writes its one value, and only a reset, which an enabled watchdog makes, clears
LPCFG and counts in RESETS. -/
theorem step_pwr_cases {s t : State} (h : step s = .next t) :
    ((t.pwr = s.pwr ∨ t.pwr = lowPowerPwr) ∧ t.ghost.resets = s.ghost.resets) ∨
      (s.pwr.wdtEn = true ∧ t.pwr.lpcfg = false) := by
  cases step_next h with
  | command ha hh hb op rest ho i hi _ ht =>
    left
    cases ht with
    | lowpower => exact ⟨.inr rfl, by simp⟩
    | _ => exact ⟨.inl (by simp), by simp⟩
  | reset ha hw => exact .inr ⟨hw, rfl⟩
  | _ => exact .inl (by simp)

theorem State.PwrInv.step {s t : State} (hs : s.PwrInv) (h : step s = .next t) : t.PwrInv := by
  intro hlp
  obtain ⟨hpwr | hpwr, -⟩ | ⟨-, hclear⟩ := step_pwr_cases h
  · rw [hpwr] at hlp ⊢
    exact hs hlp
  · exact hpwr
  · rw [hclear] at hlp
    cases hlp

/-- R219: in the low-power configuration the watchdog is off, so no step resets the block or leaves that configuration. -/
theorem State.LowPowerCfg.step {s t : State} (hs : s.LowPowerCfg) (h : step s = .next t) :
    t.LowPowerCfg ∧ t.ghost.resets = s.ghost.resets := by
  obtain ⟨hpwr | hpwr, hresets⟩ | ⟨hw, -⟩ := step_pwr_cases h
  · exact ⟨hpwr.trans hs, hresets⟩
  · exact ⟨hpwr, hresets⟩
  · rw [hs] at hw
    cases hw

/-- Settles O56: with LPCFG = 1 the block is in the low-power configuration, which no run leaves. -/
theorem lowPowerConfigEndsResets : Obligations.LowPowerConfigEndsResets := by
  refine ⟨fun s t hs h => hs.step h, fun s t hs hlp hreach => ?_⟩
  refine hreach.keeps (P := fun u => u.LowPowerCfg ∧ u.ghost.resets = s.ghost.resets) ?_ ⟨hs hlp, rfl⟩
  rintro u v ⟨hcfg, hresets⟩ hstep
  obtain ⟨hcfg', hresets'⟩ := hcfg.step hstep
  exact ⟨hcfg', hresets'.trans hresets⟩

/-- Settles O55: after reset nothing is in progress, recorded or configured. P_BASE is a multiple of 0x40 (R6). -/
theorem invariantHoldsAtReset : Obligations.InvariantHoldsAtReset := by
  have hbase : Config.base % Config.windowBytes = 0 := Nat.mul_mod_right ..
  refine ⟨?_, ?_, ?_, ?_⟩
  · constructor <;> simp [State.reset, Env.start, hbase]
  · simp [State.TickInv, State.reset, Ghost.start]
  · simp [State.ErrInv, State.reset]
  · simp [State.PwrInv, State.reset]

end Sys2Proof.Machine
end

section
/-! PROOFS. The state family (10_state), the registers and STATUS: what a read returns, what a write stores, PSTATE. -/

namespace Sys2Proof.Machine

/-! ### Reads (R62) -/

/-- R62: a 4-byte access at a register's offset returns its value to the host and does nothing else. -/
theorem readAccess_reg {s : State} {a : HostAddr} {r : Reg} (rest : List HostOp)
    (hoff : a.offset? s.env.base = some r.offset) :
    readAccess a .word rest s = .next ((s.recordRead (readReg r s)).advance rest) := by
  simp [readAccess, hoff, hostRead_admitted s (admitted_word_offset r)]

/-- R62: the step of a running host whose next operation is a 4-byte read of `r`. -/
theorem step_read_reg {s : State} {a : HostAddr} {r : Reg} {rest : List HostOp} (ha : s.nextAgent = .host)
    (hh : s.halted = false) (ht : s.env.todo = .read a .word :: rest) (hoff : a.offset? s.env.base = some r.offset) :
    ∃ sched drawNo, step s = .next { s with
      env := { s.env with todo := rest, reads := s.env.reads ++ [readReg r s], sched := sched, drawNo := drawNo } } := by
  obtain ⟨sched, drawNo, hpick⟩ := afterPick_eq s
  refine ⟨sched, drawNo, ?_⟩
  rw [step_host_read ha hh ht, readAccess_reg rest (r := r) (by simpa using hoff), afterPick_readReg, hpick]
  rfl

/-- Settles O12: each row of the table is a register at its offset with its value, and a read returns that value. -/
theorem readReturnsRegister : Obligations.ReadReturnsRegister := by
  intro s a r off v rest hrow
  have hreg : r.offset = off ∧ readReg r s = v := by
    cases r with
    | err =>
      obtain ⟨rfl, rfl⟩ : off = _ ∧ v = _ := by simpa using hrow
      exact ⟨rfl, by cases herr : s.err <;> simp [readReg, herr, ErrCode.bits]⟩
    | pflags =>
      obtain ⟨rfl, rfl⟩ : off = _ ∧ v = _ := by simpa using hrow
      exact ⟨rfl, by cases hinv : s.inv <;> simp [readReg, hinv]⟩
    | _ =>
      obtain ⟨rfl, rfl⟩ : off = _ ∧ v = _ := by simpa using hrow
      exact ⟨rfl, rfl⟩
  obtain ⟨rfl, rfl⟩ := hreg
  exact ⟨rfl, rfl, fun ha hh ht hoff => step_read_reg ha hh ht hoff⟩

/-! ### Writes to the registers (R67, R104) -/

/-- R67: a 4-byte access at the offset of a register that is not CMD writes it, also while BUSY = 1. -/
theorem writeAccess_reg {s : State} {a : HostAddr} {r : Reg} (v : Word) (rest : List HostOp) (hr : r ≠ .cmd)
    (hoff : a.offset? s.env.base = some r.offset) :
    writeAccess a .word v rest s = .next ((writeReg r v s).advance rest) := by
  cases r with
  | cmd => exact absurd rfl hr
  | _ => simp [writeAccess, hoff]

/-- No register shows the host's place in its program. -/
@[simp] theorem advance_readReg (r : Reg) (rest : List HostOp) (s : State) : readReg r (s.advance rest) = readReg r s := by
  cases r <;> rfl

/-- STATUS shows none of the staged registers (R25). -/
@[simp] theorem writeReg_statusWord (r : Reg) (v : Word) (s : State) : (writeReg r v s).statusWord = s.statusWord := by
  cases r <;> rfl

/-- A write to a register leaves the value of every other register. -/
theorem readReg_writeReg_of_ne {r r' : Reg} (h : r' ≠ r) (v : Word) (s : State) :
    readReg r' (writeReg r v s) = readReg r' s := by
  cases r' <;> simp [readReg, h.symm]

/-- R32, R104: a write changes the staged registers at most. -/
theorem writeReg_frame (r : Reg) (v : Word) (s : State) :
    writeReg r v s = { s with
      tickUs := (writeReg r v s).tickUs, sync := (writeReg r v s).sync, zero := (writeReg r v s).zero
      one := (writeReg r v s).one, inv := (writeReg r v s).inv, code := (writeReg r v s).code } := by
  cases r <;> rfl

/-- R27: TICK_US keeps bits 15:0 of the value written. -/
theorem readReg_writeReg_tickUs (v : Word) (s : State) : readReg .tickUs (writeReg .tickUs v s) = v &&& 0x0000FFFF := by
  apply BitVec.eq_of_toNat_eq
  have hmask : v.toNat &&& 65535 = v.toNat % 65536 := Nat.and_two_pow_sub_one_eq_mod v.toNat 16
  simp [readReg, hmask]
  omega

/-- R29: PFLAGS keeps bit 0 of the value written. -/
theorem readReg_writeReg_pflags (v : Word) (s : State) : readReg .pflags (writeReg .pflags v s) = v &&& 0x00000001 := by
  apply BitVec.eq_of_toNat_eq
  obtain hbit | hbit := Nat.mod_two_eq_zero_or_one v.toNat <;> simp [readReg, BitVec.getLsbD, hbit]

/-- Settles O14: each row of the table is a register that is written as such, and reads back under its mask. -/
theorem stagedWriteReadsBack : Obligations.StagedWriteReadsBack := by
  intro s a r off mask v rest hrow ha hh ht hoff
  have hreg : r ≠ .cmd ∧ r.offset = off ∧ ∀ u, readReg r (writeReg r v u) = v &&& mask := by
    cases r with
    | cmd | status | err | repeatCount => simp at hrow
    | tickUs =>
      obtain ⟨rfl, rfl⟩ : off = _ ∧ mask = _ := by simpa using hrow
      exact ⟨by decide, rfl, readReg_writeReg_tickUs v⟩
    | pflags =>
      obtain ⟨rfl, rfl⟩ : off = _ ∧ mask = _ := by simpa using hrow
      exact ⟨by decide, rfl, readReg_writeReg_pflags v⟩
    | _ =>
      obtain ⟨rfl, rfl⟩ : off = _ ∧ mask = _ := by simpa using hrow
      exact ⟨by decide, rfl, fun _ => BitVec.and_allOnes.symm⟩
  obtain ⟨hcmd, rfl, hback⟩ := hreg
  obtain ⟨sched, drawNo, hpick⟩ := afterPick_eq s
  refine ⟨(writeReg r v s.afterPick).advance rest, sched, drawNo, ?_, ?_, fun r' hne => ?_, ?_⟩
  · rw [step_host_write ha hh ht, writeAccess_reg v rest hcmd (by simpa using hoff)]
  · rw [advance_readReg, hback]
  · rw [advance_readReg, readReg_writeReg_of_ne hne, afterPick_readReg]
  · rw [hpick]
    exact congrArg (State.advance · rest) (writeReg_frame r v _)

/-! ### STATUS and PSTATE (R25, R46) -/

theorem getLsbD_statusBit {k : Nat} (hk : k < 32) (b : Bool) (i : Nat) :
    (statusBit k b).getLsbD i = (decide (i = k) && b) := by
  obtain hlt | rfl | hgt := Nat.lt_trichotomy i k
  · simp [statusBit, hlt, hlt.ne]
  · simp [statusBit, hk]
  · have hne : i - k ≠ 0 := by omega
    simp [statusBit, hgt.ne', hne]

/-- Where each bit of STATUS comes from. -/
theorem statusWord_getLsbD (s : State) (i : Nat) : s.statusWord.getLsbD i =
    (decide (i = 0) && s.busy || decide (i = 1) && s.tickArmed || decide (i = 2) && s.tickFlag ||
      decide (i = 3) && s.configured || decide (i = 4) && s.actLvl || decide (i = 5) && s.dataOut ||
      decide (i = 6) && s.se || decide (i = 7) && s.wakeIe ||
      decide (8 ≤ i ∧ i < 10) && s.pstate.getLsbD (i - 8) || decide (i = 10) && s.errf) := by
  have hpstate : (s.pstate.setWidth 32 <<< 8).getLsbD i = (decide (8 ≤ i ∧ i < 10) && s.pstate.getLsbD (i - 8)) := by
    by_cases hi : 8 ≤ i ∧ i < 10
    · have h1 : i < 32 := by omega
      simp [hi, h1]
    · obtain hlt | hge : i < 8 ∨ 2 ≤ i - 8 := by omega
      · simp [hlt, hi]
      · simp [hi, BitVec.getLsbD_of_ge s.pstate (i - 8) hge]
  simp [State.statusWord, getLsbD_statusBit, hpstate]

/-- Settles O15: the bits of STATUS, its value after reset, and that neither a write nor a halted host does anything. -/
theorem statusWordLayout : Obligations.StatusWordLayout := by
  refine ⟨fun s => ?_, ?_, fun _ _ => rfl, fun _ => hostStep_of_halted⟩
  · have hpstate : s.statusWord.extractLsb' 8 2 = s.pstate := by
      ext i hi
      rw [BitVec.getElem_extractLsb', statusWord_getLsbD]
      interval_cases i <;> simp
    have hhigh : ∀ i, 11 ≤ i → s.statusWord.getLsbD i = false := by
      intro i hi
      rw [statusWord_getLsbD]
      simp
      omega
    refine ⟨?_, ?_, ?_, ?_, ?_, ?_, ?_, ?_, hpstate, ?_, hhigh⟩ <;> rw [statusWord_getLsbD] <;> simp [State.errf]
  · rfl

/-- Settles O16: the three tests of PSTATE in their order. -/
theorem powerStateRule : Obligations.PowerStateRule := by
  refine ⟨fun s => ⟨fun hh => ?_, fun hh hse => ?_, fun hh hse => ?_⟩, rfl⟩
  · simp [State.pstate, hh]
  · simp [State.pstate, hh, hse]
  · by_cases hdown : s.pwr.lpcfg = true ∧ s.wakeIe = true ∧ s.tickArmed = false
    · simp [State.pstate, hh, hse, hdown]
    · simp [State.pstate, hh, hse, and_assoc, hdown]

/-- Settles O21: SET_REPEAT is one field of the state, and STATUS does not show it. -/
theorem setRepeatSets : Obligations.SetRepeatSets := by
  intro n s
  have hread : (readReg .repeatCount { s with repeatN := n }).toNat = n.toNat :=
    BitVec.toNat_setWidth_of_le (by decide)
  exact ⟨{ s with repeatN := n }, rfl, rfl, hread, rfl⟩

end Sys2Proof.Machine
end

section
/-! PROOFS. The state family (10_state), rules over every step: the tick flag, an unarmed sleep, a send in progress. -/

namespace Sys2Proof.Machine

/-- The writers of TICK_FLAG: a TICK sets it, a consume clears it and records its pin write, and a reset clears it. -/
theorem step_tickFlag_cases {s t : State} (h : step s = .next t) :
    t.tickFlag = s.tickFlag ∨
      (t.tickFlag = true ∧ s.nextAgent = .tick ∧ s.tickArmed = true) ∨
      (t.tickFlag = false ∧ s.nextAgent = .engine ∧ s.busy = true ∧ ∃ k, s.seq = .write k :: t.seq ∧
        t.ghost.wave = s.ghost.wave ++ [⟨s.ghost.sends, s.ghost.tickNo, t.dataOut, k⟩]) ∨
      (t.tickFlag = false ∧ s.nextAgent = .wdt ∧ s.pwr.wdtEn = true) := by
  cases step_next h with
  | command ha hh hb op rest ho i hi _ ht => exact .inl (by cases ht <;> simp)
  | consume ha hb k rest hseq hf => exact .inr (.inr (.inl ⟨rfl, ha, hb, k, hseq, by simp⟩))
  | tick ha harmed => exact .inr (.inl ⟨rfl, ha, harmed⟩)
  | reset ha hw => exact .inr (.inr (.inr ⟨rfl, ha, hw⟩))
  | _ => exact .inl (by simp)

/-- Settles O47: the writers of TICK_FLAG, by the value they leave. -/
theorem tickFlagWriters : Obligations.TickFlagWriters := by
  intro s t h
  obtain hkept | ⟨hset, htick⟩ | ⟨hclear, hconsume⟩ | ⟨hclear, hreset⟩ := step_tickFlag_cases h
  · rw [hkept]
    exact ⟨fun h0 h1 => by simp [h0] at h1, fun h1 h0 => by simp [h0] at h1⟩
  · exact ⟨fun _ _ => htick, by simp [hset]⟩
  · exact ⟨by simp [hclear], fun _ _ => .inl hconsume⟩
  · exact ⟨by simp [hclear], fun _ _ => .inr hreset⟩

/-! ### An unarmed sleep (R44, R167) -/

/-- R167: a step from a halted host with WAKE_IE = 0 resets the block, or leaves the host halted where it is. -/
theorem step_of_unarmed_halt {s t : State} (h : step s = .next t) (hh : s.halted = true) (hw : s.wakeIe = false) :
    s.ghost.resets < t.ghost.resets ∨
      (t.halted = true ∧ t.wakeIe = false ∧ t.env.todo = s.env.todo ∧ t.env.reads = s.env.reads ∧ t.err = s.err) := by
  have hrun : s.halted ≠ false := by simp [hh]
  cases step_next h with
  | read _ hh' | badRead _ hh' | badWrite _ hh' | staged _ hh' | badCommand _ hh' | command _ hh' => exact absurd hh' hrun
  | reset => exact .inl (by simp)
  | _ => exact .inr (by simp [hh, hw])

/-- No run lowers RESETS. -/
theorem Reaches.resets_le {s t : State} (h : Reaches s t) : s.ghost.resets ≤ t.ghost.resets :=
  h.keeps (P := fun u => s.ghost.resets ≤ u.ghost.resets) (fun _ _ hu hstep => hu.trans (step_resets_le hstep)) le_rfl

/-- R167: over a run with no reset from a halted host with WAKE_IE = 0 the host stays halted where it is. -/
theorem Reaches.of_unarmed_halt {s t : State} (h : Reaches s t) (hh : s.halted = true) (hw : s.wakeIe = false)
    (hr : t.ghost.resets = s.ghost.resets) :
    t.halted = true ∧ t.wakeIe = false ∧ t.env.todo = s.env.todo ∧ t.env.reads = s.env.reads ∧ t.err = s.err := by
  induction h with
  | refl => exact ⟨hh, hw, rfl, rfl, rfl⟩
  | tail hreach hstep ih =>
    have hmono := step_resets_le hstep
    obtain ⟨hh', hw', htodo, hreads, herr⟩ := ih (by have := hreach.resets_le; omega)
    obtain hreset | ⟨hh'', hw'', htodo', hreads', herr'⟩ := step_of_unarmed_halt hstep hh' hw'
    · have := hreach.resets_le; omega
    · exact ⟨hh'', hw'', htodo'.trans htodo, hreads'.trans hreads, herr'.trans herr⟩

/-- Settles O50: SLEEP, and HALT with SE = 1, halt the host and leave WAKE_IE at 0. -/
theorem unarmedSleepNeverEnds : Obligations.UnarmedSleepNeverEnds := by
  intro i s t u hi hw hexec hreach hr
  obtain ⟨hhalt, hwake⟩ : t.halted = true ∧ t.wakeIe = false := by
    obtain rfl | ⟨rfl, hse⟩ := hi
    · cases exec_next hexec; simp [hw]
    · cases exec_next hexec; simp [hw, hse]
  exact hreach.of_unarmed_halt hhalt hwake hr

/-! ### No cancellation (R138) -/

/-- Settles O52: with BUSY = 1 the host performs no command (R69), and no other change of a step touches the send. -/
theorem noCancellation : Obligations.NoCancellation := by
  intro s t hb h hengine hwdt
  have hnidle : s.busy ≠ false := by simp [hb]
  cases step_next h with
  | command _ _ hb' | badCommand _ _ hb' => exact absurd hb' hnidle
  | consume ha | disarm ha => exact absurd ha hengine
  | reset ha hw => exact absurd hw (by simp [hwdt ha])
  | _ => simp [hb]

end Sys2Proof.Machine
end

section
/-! PROOFS. The memory family (20_memory): the host's accesses to the window, and the ticks of the shared flag. -/

namespace Sys2Proof.Machine

/-! ### Addresses (R61, R66) -/

theorem windowOffset_of_mem {base addr : Nat} (h : base ≤ addr ∧ addr < base + 0x40) :
    windowOffset base addr = some (BitVec.ofNat 6 (addr - base)) :=
  if_pos h

theorem windowOffset_of_not_mem {base addr : Nat} (h : ¬(base ≤ addr ∧ addr < base + 0x40)) :
    windowOffset base addr = none :=
  if_neg h

theorem windowOffset_eq_some_iff {base addr : Nat} {off : BitVec 6} :
    windowOffset base addr = some off ↔ base ≤ addr ∧ addr < base + 0x40 ∧ off.toNat = addr - base := by
  rw [← and_assoc]
  by_cases hin : base ≤ addr ∧ addr < base + 0x40
  · have hlt : addr - base < 2 ^ 6 := by omega
    rw [windowOffset_of_mem hin, Option.some_inj, ← BitVec.toNat_inj, BitVec.toNat_ofNat, Nat.mod_eq_of_lt hlt, eq_comm,
      and_iff_right hin]
  · simp [windowOffset_of_not_mem hin, hin]

/-- R61: a read outside the window is refused. -/
theorem readAccess_outside {s : State} {addr : Nat} (n : Width) (rest : List HostOp)
    (h : windowOffset s.env.base addr = none) : readAccess (.bus addr) n rest s = .refused (.outsideWindow addr) := by
  simp [readAccess, HostAddr.offset?, HostAddr.busAddr, h]

/-- R61: a write outside the window is refused. -/
theorem writeAccess_outside {s : State} {addr : Nat} (n : Width) (v : Word) (rest : List HostOp)
    (h : windowOffset s.env.base addr = none) : writeAccess (.bus addr) n v rest s = .refused (.outsideWindow addr) := by
  simp [writeAccess, HostAddr.offset?, HostAddr.busAddr, h]

/-- Settles O10: the offset of an address in the window, and the refusal of both accesses outside it. -/
theorem windowAddressing : Obligations.WindowAddressing := by
  refine ⟨fun base addr off => windowOffset_eq_some_iff, fun s addr n v rest ha hh hout htodo => ?_⟩
  have hnone : windowOffset s.afterPick.env.base addr = none :=
    windowOffset_of_not_mem (by rw [afterPick_env_base]; omega)
  obtain ht | ht := htodo
  · rw [step_host_read ha hh ht, readAccess_outside n rest hnone]
  · rw [step_host_write ha hh ht, writeAccess_outside n v rest hnone]

/-! ### Bad accesses (R63 to R65, R202) -/

/-- R64, R65: no register stands at a misaligned offset or above REPEAT, the last one. -/
theorem Reg.ofOffset_eq_none_iff : ∀ {off : BitVec 6},
    Reg.ofOffset off = none ↔ off.toNat % 4 ≠ 0 ∨ 0x24 < off.toNat := by
  decide

theorem admitted_eq_none_iff {off : BitVec 6} {n : Width} :
    admitted off n = none ↔ n ≠ .word ∨ off.toNat % 4 ≠ 0 ∨ 0x24 < off.toNat := by
  by_cases hn : n = .word
  · simp only [admitted, hn, if_true, Reg.ofOffset_eq_none_iff, ne_eq, not_true, false_or]
  · simp [admitted, hn]

/-- R62, R63: a bad read records BAD_ACCESS and returns 0. -/
theorem readAccess_bad {s : State} {a : HostAddr} {off : BitVec 6} {n : Width} (rest : List HostOp)
    (hoff : a.offset? s.env.base = some off) (had : admitted off n = none) :
    readAccess a n rest s = .next (((raiseErr .badAccess s).recordRead 0).advance rest) := by
  simp [readAccess, hoff, hostRead_bad s had]

/-- R63, R67: a bad write records BAD_ACCESS, also at the offset of CMD. -/
theorem writeAccess_bad {s : State} {a : HostAddr} {off : BitVec 6} {n : Width} (v : Word) (rest : List HostOp)
    (hoff : a.offset? s.env.base = some off) (had : admitted off n = none) :
    writeAccess a n v rest s = .next ((raiseErr .badAccess s).advance rest) := by
  simp [writeAccess, hoff, had]

/-- Settles O11: a bad access is one that no register admits, and BAD_ACCESS is its whole effect. -/
theorem badAccessRecordsOnly : Obligations.BadAccessRecordsOnly := by
  intro s a off n v rest ha hh hoff hbad
  have hoff' : a.offset? s.afterPick.env.base = some off := by simpa using hoff
  have had : admitted off n = none := admitted_eq_none_iff.mpr hbad
  obtain ⟨sched, drawNo, hpick⟩ := afterPick_eq s
  refine ⟨fun ht => ⟨sched, drawNo, ?_⟩, fun ht => ⟨sched, drawNo, ?_⟩⟩
  · rw [step_host_read ha hh ht, readAccess_bad rest hoff' had, hpick]
    rfl
  · rw [step_host_write ha hh ht, writeAccess_bad v rest hoff' had, hpick]
    rfl

/-! ### Writes to CMD and to the read-only registers (R67 to R69) -/

/-- With the agent chosen and the host past its operation, only the host's place and the schedule differ. -/
theorem afterPick_advance_eq (s : State) (rest : List HostOp) : ∃ sched drawNo, s.afterPick.advance rest =
    { s with env := { s.env with todo := rest, sched := sched, drawNo := drawNo } } := by
  obtain ⟨sched, drawNo, hpick⟩ := afterPick_eq s
  exact ⟨sched, drawNo, by rw [hpick]; rfl⟩

/-- R67: a write of `w` that reaches CMD while BUSY = 0 is `Command(w)`. -/
theorem writeAccess_cmd_of_idle {s : State} {a : HostAddr} {n : Width} {off : BitVec 6} (w : Word) (rest : List HostOp)
    (hoff : a.offset? s.env.base = some off) (had : admitted off n = some .cmd) (hb : s.busy = false) :
    writeAccess a n w rest s = command w (s.advance rest) := by
  simp [writeAccess, hoff, had, hb]

/-- R91: the command of a word that decodes is that command's effect. -/
theorem command_of_decode {w : Word} {i : Instr} (s : State) (h : decode w = .cmd i) : command w s = exec i s := by
  simp [command, h]

/-- Settles O7: the write of a running host goes through `Command(w)`. -/
theorem stepRunsDecodedCommand : Obligations.StepRunsDecodedCommand := by
  intro s a w rest ha hh hb ht hoff
  have hstep : step s = command w (s.afterPick.advance rest) := by
    rw [step_host_write ha hh ht, writeAccess_cmd_of_idle w rest (by simpa using hoff) rfl (by simpa using hb)]
  exact ⟨hstep, fun i hi => hstep.trans (command_of_decode _ hi), afterPick_advance_eq s rest⟩

/-- Settles O8: a host before a CMD write has no enabled step while BUSY = 1. -/
theorem cmdWriteHoldsWhileBusy : Obligations.CmdWriteHoldsWhileBusy := by
  intro s a w rest ha hb ht hoff
  have hcmd : s.cmdWriteNext = true := cmdWriteNext_iff.mpr ⟨a, .word, w, rest, _, ht, hoff, rfl⟩
  have hdisabled : s.enabled s.nextAgent = false := by simp [ha, State.enabled, hb, hcmd]
  exact ⟨disabledAgentHolds.1 s hdisabled, afterPick_env_todo s⟩

/-- Settles O13: the three offsets are those of registers that a write leaves as they are. -/
theorem readOnlyWriteIgnored : Obligations.ReadOnlyWriteIgnored := by
  intro s a off v rest hro ha hh ht hoff
  obtain ⟨r, rfl, hr, hkept⟩ : ∃ r : Reg, r.offset = off ∧ r ≠ .cmd ∧ ∀ u, writeReg r v u = u := by
    obtain rfl | rfl | rfl := hro
    · exact ⟨.status, rfl, by decide, fun _ => rfl⟩
    · exact ⟨.err, rfl, by decide, fun _ => rfl⟩
    · exact ⟨.repeatCount, rfl, by decide, fun _ => rfl⟩
  obtain ⟨sched, drawNo, hmoved⟩ := afterPick_advance_eq s rest
  refine ⟨sched, drawNo, ?_⟩
  rw [step_host_write ha hh ht, writeAccess_reg v rest hr (by simpa using hoff), hkept, hmoved]

/-! ### The shared tick flag (R74) -/

/-- A command that starts no SEND leaves the ticks, the records and the flag. -/
theorem CommandChange.ticks_of_sends_eq {s t : State} {i : Instr} (h : CommandChange s i t)
    (hsends : t.ghost.sends = s.ghost.sends) :
    t.ghost.tickNo = s.ghost.tickNo ∧ t.ghost.wave = s.ghost.wave ∧ t.ghost.lost = s.ghost.lost ∧
      t.tickFlag = s.tickFlag := by
  cases h with
  | send => simp at hsends
  | _ => simp

/-- Settles O53: a TICK puts its tick into the flag or loses it, a consume takes one out of the flag into a record, and no
other step but a SEND's start or a reset touches any of them. -/
theorem tickAccounting : Obligations.TickAccounting := by
  intro s t h hsends hresets
  cases step_next h with
  | command ha hh hb op rest ho i hi _ ht =>
    obtain ⟨htick, hwave, hlost, hflag⟩ := ht.ticks_of_sends_eq (by simpa using hsends)
    simp [htick, hwave, hlost, hflag]
  | consume ha hb k rest hseq hf => simp +arith [hf]
  | tick => simp +arith
  | reset => simp at hresets
  | _ => simp

end Sys2Proof.Machine
end

section
/-! PROOFS. The encoding family (30_encoding): the table of R82 as bit fields, the decoder, and that encoding inverts it. -/

namespace Sys2Proof

/-! ### The rows of the table of R82 -/

/-- The bits of a command's operand field, the low bits of its word (R82). -/
def Instr.operandBits : Instr → Nat
  | .setrepeat _ => 16
  | .send _ => 6
  | _ => 0

/-- The command with the operand that the word `w` holds in its field (R83). -/
def Instr.withOperandOf (w : Word) : Instr → Instr
  | .setrepeat _ => .setrepeat (w.extractLsb' 0 16)
  | .send _ => .send (w.extractLsb' 0 6)
  | i => i

@[simp] theorem Instr.maskWord_withOperandOf (w : Word) (i : Instr) : (i.withOperandOf w).maskWord = i.maskWord := by
  cases i <;> rfl

@[simp] theorem Instr.matchWord_withOperandOf (w : Word) (i : Instr) : (i.withOperandOf w).matchWord = i.matchWord := by
  cases i <;> rfl

@[simp] theorem Instr.withOperandOf_withOperandOf (w : Word) (i : Instr) :
    (i.withOperandOf w).withOperandOf w = i.withOperandOf w := by
  cases i <;> rfl

/-- The mask covers every bit above the operand field. -/
theorem Instr.maskWord_eq (i : Instr) : i.maskWord = BitVec.allOnes 32 <<< i.operandBits := by
  cases i <;> simp [maskWord, operandBits]

/-- The match value is the opcode in bits 31:28. -/
theorem Instr.matchWord_eq (i : Instr) : i.matchWord = i.opcode.setWidth 32 <<< 28 := by
  cases i <;> simp [matchWord, opcode]

/-- The mask above `lo` has exactly the bits from `lo` up. -/
theorem getLsbD_mask {lo k : Nat} (hk : k < 32) : (BitVec.allOnes 32 <<< lo).getLsbD k = decide (lo ≤ k) := by
  have hsub : k - lo < 32 := by omega
  simp only [BitVec.getLsbD_shiftLeft, BitVec.getLsbD_allOnes, hk, hsub, decide_true, Bool.true_and, Bool.and_true,
    ← not_le, decide_not, Bool.not_not]

/-- The bits of a word that a mask leaves out are the word's low field. -/
theorem and_not_mask_eq_field (w : Word) (lo : Nat) :
    w &&& ~~~(BitVec.allOnes 32 <<< lo) = (w.extractLsb' 0 lo).setWidth 32 := by
  ext k hk
  rw [BitVec.getElem_and, BitVec.getElem_not, ← BitVec.getLsbD_eq_getElem, ← BitVec.getLsbD_eq_getElem, getLsbD_mask hk]
  simp only [BitVec.getElem_setWidth, BitVec.getLsbD_extractLsb', Nat.zero_add, ← decide_not, not_le, Bool.and_comm]

/-- The operand bits of a word are those its mask leaves out. -/
theorem Instr.operandWord_withOperandOf (w : Word) (i : Instr) :
    (i.withOperandOf w).operandWord = w &&& ~~~i.maskWord := by
  rw [maskWord_eq, and_not_mask_eq_field]
  cases i with
  | setrepeat | send => rfl
  | _ => simp [operandBits, withOperandOf, operandWord]

/-- A masked word is an opcode in bits 31:28 when that is its OP and the masked bits of ARG are 0. -/
theorem and_mask_eq_opcode_iff {lo : Nat} (hlo : lo ≤ 28) (w : Word) (op : BitVec 4) :
    w &&& (BitVec.allOnes 32 <<< lo) = op.setWidth 32 <<< 28 ↔ opField w = op ∧ w.extractLsb' lo (28 - lo) = 0 := by
  constructor
  · intro h
    have hbit : ∀ k, lo ≤ k → k < 32 → w.getLsbD k = (op.setWidth 32 <<< 28).getLsbD k := by
      intro k hk hk32
      rw [← h, BitVec.getLsbD_and, getLsbD_mask hk32, decide_eq_true hk, Bool.and_true]
    constructor
    · ext k hk
      have h28 : 28 + k < 32 := by omega
      rw [opField, BitVec.getElem_extractLsb', hbit _ (by omega) h28]
      simp [h28, hk, BitVec.getLsbD_eq_getElem]
    · ext k hk
      have h28 : lo + k < 28 := by omega
      rw [BitVec.getElem_extractLsb', hbit _ (by omega) (by omega)]
      simp [h28]
  · rintro ⟨rfl, hzero⟩
    ext k hk
    rw [← BitVec.getLsbD_eq_getElem, BitVec.getLsbD_and, getLsbD_mask hk, ← BitVec.getLsbD_eq_getElem]
    obtain h28 | ⟨j, rfl⟩ : k < 28 ∨ ∃ j, k = 28 + j := (Nat.lt_or_ge k 28).imp_right Nat.exists_eq_add_of_le
    · by_cases hlow : lo ≤ k
      · have hsub : k - lo < 28 - lo := by omega
        have hbit : w.getLsbD k = false := by
          simpa [hlow, hsub] using congrArg (BitVec.getLsbD · (k - lo)) hzero
        simp [h28, hbit]
      · simp [h28, hlow]
    · have hj : j < 4 := by omega
      have hlow : lo ≤ 28 + j := by omega
      simp [opField, hk, hj, hlow]

/-- R82: a word passes a command's mask when OP is that command's and the reserved bits of its format are 0. -/
theorem and_maskWord_eq_matchWord_iff (w : Word) (i : Instr) : w &&& i.maskWord = i.matchWord ↔
    opField w = i.opcode ∧ w.extractLsb' i.operandBits (28 - i.operandBits) = 0 := by
  have hbits : i.operandBits ≤ 28 := by cases i <;> simp [Instr.operandBits]
  rw [i.maskWord_eq, i.matchWord_eq, and_mask_eq_opcode_iff hbits]

/-- R82: the word of every command carries its row of the table. -/
theorem encode_fields (i : Instr) : Laws.EncodeFields.Statement i := by
  cases i with
  | configure => exact Laws.EncodeFields.configure
  | setrepeat n => exact Laws.EncodeFields.setrepeat n
  | send len => exact Laws.EncodeFields.send len
  | lowpower => exact Laws.EncodeFields.lowpower
  | armwake => exact Laws.EncodeFields.armwake
  | sleep => exact Laws.EncodeFields.sleep
  | halt => exact Laws.EncodeFields.halt
  | wake => exact Laws.EncodeFields.wake

/-- R83: the operand field of a command's word holds its operand. -/
theorem withOperandOf_encode (i : Instr) : i.withOperandOf (encode i) = i := by
  cases i with
  | setrepeat n =>
    have hfield : (encode (.setrepeat n)).extractLsb' 0 16 = n := by
      ext k hk
      simp only [encode, Instr.matchWord, Instr.operandWord, BitVec.getElem_extractLsb', BitVec.getLsbD_or,
        BitVec.getLsbD_setWidth]
      interval_cases k <;> simp
    exact congrArg Instr.setrepeat hfield
  | send len =>
    have hfield : ∀ len, (encode (.send len)).extractLsb' 0 6 = len := by decide
    exact congrArg Instr.send (hfield len)
  | _ => rfl

/-- A word that passes a command's mask is the word of that command with the word's own operand: no bit is dropped. -/
theorem encode_withOperandOf {w : Word} {i : Instr} (h : w &&& i.maskWord = i.matchWord) :
    encode (i.withOperandOf w) = w := by
  rw [encode, Instr.matchWord_withOperandOf, Instr.operandWord_withOperandOf, ← h]
  ext k hk
  cases hm : i.maskWord[k] <;> simp [hm]

/-! ### The decoder (R84, R86, R91) -/

/-- R91: a word whose OP names a command decodes by that command's mask (R82). -/
theorem decode_of_opField {w : Word} {i : Instr} (h : opField w = i.opcode) :
    decode w = if w &&& i.maskWord = i.matchWord then .cmd (i.withOperandOf w) else .rsvdBits := by
  simp only [and_maskWord_eq_matchWord_iff, h, true_and]
  cases i <;> simp only [decode, h, Instr.opcode] <;> rfl

/-- The OP values that name a command (R81). -/
def commandOps : List (BitVec 4) := [0x1#4, 0x2#4, 0x3#4, 0x8#4, 0x9#4, 0xA#4, 0xB#4, 0xC#4]

/-- The OP values that name none (R84). -/
def illegalOps : List (BitVec 4) := [0x0#4, 0x4#4, 0x5#4, 0x6#4, 0x7#4, 0xD#4, 0xE#4, 0xF#4]

theorem mem_illegalOps_iff : ∀ {op : BitVec 4}, op ∈ illegalOps ↔ op ∉ commandOps := by decide

theorem exists_opcode_eq_of_mem {op : BitVec 4} (h : op ∈ commandOps) : ∃ i : Instr, op = i.opcode := by
  have hrows : commandOps =
      [.configure, .setrepeat 0, .send 0, .lowpower, .armwake, .sleep, .halt, .wake].map Instr.opcode := rfl
  obtain ⟨i, -, hi⟩ := List.mem_map.mp (hrows ▸ h)
  exact ⟨i, hi.symm⟩

theorem decode_of_mem_illegalOps {w : Word} (h : opField w ∈ illegalOps) : decode w = .illegalOp := by
  simp only [illegalOps, List.mem_cons, List.not_mem_nil, or_false] at h
  obtain h | h | h | h | h | h | h | h := h <;> simp [decode, h]

/-- R81, R91: a word's OP is illegal or one command's, whose mask then decides (R84 item 4). -/
theorem decode_cases (w : Word) :
    (opField w ∈ illegalOps ∧ decode w = .illegalOp) ∨ ∃ i : Instr, opField w = i.opcode ∧
      decode w = if w &&& i.maskWord = i.matchWord then .cmd (i.withOperandOf w) else .rsvdBits := by
  by_cases hop : opField w ∈ commandOps
  · obtain ⟨i, hi⟩ := exists_opcode_eq_of_mem hop
    exact .inr ⟨i, hi, decode_of_opField hi⟩
  · have hill := mem_illegalOps_iff.mpr hop
    exact .inl ⟨hill, decode_of_mem_illegalOps hill⟩

/-- R82: a word decodes to a command when it passes its mask and holds its operand. -/
theorem decode_eq_cmd_iff {w : Word} {i : Instr} :
    decode w = .cmd i ↔ w &&& i.maskWord = i.matchWord ∧ i = i.withOperandOf w := by
  constructor
  · intro h
    obtain ⟨-, hill⟩ | ⟨j, -, hj⟩ := decode_cases w
    · simp [hill] at h
    · rw [hj] at h
      split at h
      next hmask =>
        obtain rfl : j.withOperandOf w = i := Decoded.cmd.inj h
        simpa using hmask
      next => cases h
  · rintro ⟨hmask, hi⟩
    rw [decode_of_opField ((and_maskWord_eq_matchWord_iff w i).mp hmask).1, if_pos hmask, ← hi]

theorem decode_eq_illegalOp_iff {w : Word} : decode w = .illegalOp ↔ opField w ∈ illegalOps := by
  refine ⟨fun h => ?_, decode_of_mem_illegalOps⟩
  obtain ⟨hill, -⟩ | ⟨i, -, hi⟩ := decode_cases w
  · exact hill
  · rw [hi] at h
    split at h <;> cases h

/-- R82, R86: RSVD_BITS is for the words of a command's OP that pass no mask. -/
theorem decode_eq_rsvdBits_iff {w : Word} :
    decode w = .rsvdBits ↔ opField w ∈ commandOps ∧ ∀ i : Instr, w &&& i.maskWord ≠ i.matchWord := by
  constructor
  · intro h
    refine ⟨?_, fun i hmask => ?_⟩
    · by_contra hop
      rw [decode_of_mem_illegalOps (mem_illegalOps_iff.mpr hop)] at h
      cases h
    · rw [decode_of_opField ((and_maskWord_eq_matchWord_iff w i).mp hmask).1, if_pos hmask] at h
      cases h
  · rintro ⟨hop, hmask⟩
    obtain ⟨i, hi⟩ := exists_opcode_eq_of_mem hop
    rw [decode_of_opField hi, if_neg (hmask i)]

/-- Settles O1: a command's word passes its mask, and its operand field holds the operand. -/
theorem decodeOfEncode : Obligations.DecodeOfEncode :=
  fun i _ => decode_eq_cmd_iff.mpr ⟨(encode_fields i).2, (withOperandOf_encode i).symm⟩

/-- Settles O2: the mask and the operand field cover every bit of the word. -/
theorem encodeOfDecode : Obligations.EncodeOfDecode := by
  intro w i h
  obtain ⟨hmask, hi⟩ := decode_eq_cmd_iff.mp h
  rw [hi]
  exact encode_withOperandOf hmask

end Sys2Proof
end

section
/-! PROOFS. The encoding family (30_encoding): the two decoding errors, the spec's words, and the assembler. -/

namespace Sys2Proof.Machine

/-- R82, R84: the command of a word with reserved bits set records RSVD_BITS and does nothing else. -/
theorem command_of_rsvdBits {w : Word} (s : State) (h : decode w = .rsvdBits) :
    command w s = .next (raiseErr .rsvdBits s) := by
  simp [command, h]

/-- R84: the command of an illegal word records ILLEGAL_OP and does nothing else. -/
theorem command_of_illegalOp {w : Word} (s : State) (h : decode w = .illegalOp) :
    command w s = .next (raiseErr .illegalOp s) := by
  simp [command, h]

/-- Settles O3: each row of R82 is a mask, a match value and the field its operand stands in. -/
theorem wordMatchesCommandMask : Obligations.WordMatchesCommandMask := by
  intro w
  have hrow : ∀ i : Instr, i = i.withOperandOf w → (decode w = .cmd i ↔ w &&& i.maskWord = i.matchWord) :=
    fun i hi => decode_eq_cmd_iff.trans (and_iff_left hi)
  refine ⟨hrow _ rfl, fun n => ?_, fun l => ?_, hrow _ rfl, hrow _ rfl, hrow _ rfl, hrow _ rfl, hrow _ rfl,
    decode_eq_rsvdBits_iff, fun h s => command_of_rsvdBits s h⟩
  · exact decode_eq_cmd_iff.trans (and_congr_right' (Instr.setrepeat.injEq ..).to_iff)
  · exact decode_eq_cmd_iff.trans (and_congr_right' (Instr.send.injEq ..).to_iff)

/-- Settles O4: the illegal words are those whose OP names no command. -/
theorem illegalOpcodesRecordError : Obligations.IllegalOpcodesRecordError :=
  fun _ => ⟨decode_eq_illegalOp_iff, fun h s => ⟨raiseErr .illegalOp s, command_of_illegalOp s h, rfl, rfl⟩⟩

/-- Settles O5: the listed words, each decoded. -/
theorem specCommandWords : Obligations.SpecCommandWords := by
  unfold Obligations.SpecCommandWords
  decide

/-! ### The assembler (R87 to R90) -/

theorem assemble_of_wellFormed {line : AsmLine} (h : line.WellFormed = true) : line.assemble = some line.accesses :=
  if_pos h

theorem assemble_of_not_wellFormed {line : AsmLine} (h : line.WellFormed = false) : line.assemble = none := by
  simp [AsmLine.assemble, h]

/-- R88: `timing(h, l)` is the number with l in its high half and h in its low half. -/
theorem timingWord_ofNat {h l : Nat} (hh : h ≤ 65535) (hl : l ≤ 65535) :
    timingWord (BitVec.ofNat 16 h) (BitVec.ofNat 16 l) = BitVec.ofNat 32 (l * 65536 + h) := by
  have hh' : h < 2 ^ 16 := by omega
  have hl' : l < 2 ^ 16 := by omega
  have hsum : l * 65536 + h < 2 ^ 32 := by omega
  apply BitVec.eq_of_toNat_eq
  rw [timingWord, BitVec.toNat_append, BitVec.toNat_ofNat, BitVec.toNat_ofNat, BitVec.toNat_ofNat, Nat.mod_eq_of_lt hh',
    Nat.mod_eq_of_lt hl', Nat.mod_eq_of_lt hsum, ← Nat.shiftLeft_add_eq_or_of_lt hh', Nat.shiftLeft_eq]

/-- R88, R89: a `timing` operand is written as that number. -/
theorem wrTiming_eq (r : Reg) {h l : Nat} (hh : h ≤ 65535) (hl : l ≤ 65535) :
    HostOp.wrTiming r h l = .wr r (BitVec.ofNat 32 (l * 65536 + h)) :=
  congrArg (HostOp.wr r) (timingWord_ofNat hh hl)

/-- R87: `0x30000000 | L` is a sum, as L lies in bits that are 0 in the match value. -/
theorem encode_send_ofNat {l : Nat} (hl : l ≤ 63) :
    encode (.send (BitVec.ofNat 6 l)) = BitVec.ofNat 32 (0x30000000 + l) := by
  have hfield : l % 64 % 4294967296 = l := by omega
  have hsum : (0x30000000 + l) % 4294967296 = 0x30000000 + l := by omega
  have hor : 0x30000000 + l = 0x30000000 ||| l := Nat.two_pow_add_eq_or_of_lt (i := 28) (by omega) 3
  apply BitVec.eq_of_toNat_eq
  simp [encode, Instr.matchWord, Instr.operandWord, hfield, hsum, ← hor]

/-- Settles O6: the operands in range fit their fields, so the lines stand for their accesses; past a bound one does not. -/
theorem assemblerExpansions : Obligations.AssemblerExpansions := by
  refine ⟨fun t sh sl zh zl oh ol i ht hsh hsl hzh hzl hoh hol hi => ?_, fun v l hv hl => ?_, by decide,
    fun n hn => ?_, fun l hl => ?_, fun r v hv => ?_⟩
  · have hfit : (AsmLine.proto t sh sl zh zl oh ol i).WellFormed = true := by
      simp [AsmLine.WellFormed, fitsWord, fitsCount, fitsFlag, *]
    rw [assemble_of_wellFormed hfit, AsmLine.accesses, wrTiming_eq _ hsh hsl, wrTiming_eq _ hzh hzl, wrTiming_eq _ hoh hol]
    rfl
  · have hfit : (AsmLine.tx v l).WellFormed = true := by simp [AsmLine.WellFormed, fitsWord, fitsLength, hv, hl]
    rw [assemble_of_wellFormed hfit, AsmLine.accesses, HostOp.command, encode_send_ofNat hl]
  · exact assemble_of_not_wellFormed (by simpa [AsmLine.WellFormed, fitsRepeat] using hn)
  · exact assemble_of_not_wellFormed (by simpa [AsmLine.WellFormed, fitsLength] using hl)
  · have hunfit : fitsWord v = false := by simpa [fitsWord] using hv
    exact ⟨assemble_of_not_wellFormed hunfit, assemble_of_not_wellFormed hunfit⟩

end Sys2Proof.Machine
end

section
/-! PROOFS. The configuration family (40_config): CONFIGURE, its rejection, its level law and repeated configuration. -/

namespace Sys2Proof.Machine

theorem exec_configure_of_tick {s : State} (h : s.tickUs ≠ 0#16) : exec .configure s = .next (latchProtocol s) :=
  if_neg h

theorem exec_configure_of_zeroTick {s : State} (h : s.tickUs = 0#16) : exec .configure s = .next (raiseErr .badTick s) :=
  if_pos h

/-- R102: the level of an active unit is never the idle one. -/
theorem State.actLvl_ne_idleLvl (s : State) : s.actLvl ≠ s.idleLvl := by
  simp [State.idleLvl]

/-- R103: latching reads staged registers only, and keeps them. -/
@[simp] theorem latchProtocol_latchProtocol (s : State) : latchProtocol (latchProtocol s) = latchProtocol s := rfl

/-- Settles O17: the staged protocol is what CONFIGURE latches. -/
theorem configureInstalls : Obligations.ConfigureInstalls :=
  fun _ htick => exec_configure_of_tick htick

/-- Settles O18: CONFIGURE raises BAD_TICK. -/
theorem configureRejectsZeroTick : Obligations.ConfigureRejectsZeroTick :=
  fun _ hzero => exec_configure_of_zeroTick hzero

/-- Settles O19: the level latched is not INV, and the idle level is its complement. -/
theorem levelLaw : Obligations.LevelLaw := by
  intro s htick
  have hconfigure : ∀ b, exec .configure { s with inv := b } = .next (latchProtocol { s with inv := b }) :=
    fun _ => exec_configure_of_tick htick
  exact ⟨⟨latchProtocol s, exec_configure_of_tick htick, State.actLvl_ne_idleLvl _, latchProtocol_actLvl s⟩,
    latchProtocol { s with inv := false }, latchProtocol { s with inv := true }, hconfigure false, hconfigure true, rfl, rfl⟩

/-- Settles O20: CONFIGURE keeps the tick length it tests and the registers it latches; SET_REPEAT overwrites one field. -/
theorem configurationIdempotent : Obligations.ConfigurationIdempotent := by
  refine ⟨fun s htick => ?_, fun n s => ⟨{ s with repeatN := n }, rfl, rfl⟩⟩
  have hkept : (latchProtocol s).tickUs ≠ 0#16 := by rwa [latchProtocol_tickUs]
  have hagain : exec .configure (latchProtocol s) = .next (latchProtocol s) := by
    rw [exec_configure_of_tick hkept, latchProtocol_latchProtocol]
  exact ⟨latchProtocol s, exec_configure_of_tick htick, hagain⟩

end Sys2Proof.Machine
end

section
/-! PROOFS. The transmission family (41_transmit): SEND, its errors, and its pulse program. -/

namespace Sys2Proof.Machine

/-! ### SEND (R120, R203) -/

theorem exec_send_badLength {s : State} {len : BitVec 6} (hl : 32 < len.toNat) :
    exec (.send len) s = .next (raiseErr .badLength s) :=
  if_pos hl

theorem exec_send_notConfigured {s : State} {len : BitVec 6} (hl : len.toNat ≤ 32) (hc : s.configured = false) :
    exec (.send len) s = .next (raiseErr .notConfigured s) := by
  simp [exec, execSend, Nat.not_lt.mpr hl, hc]

theorem exec_send_degenerate {s : State} {len : BitVec 6} (hl : len.toNat ≤ 32) (hc : s.configured = true)
    (hd : isDegenerate s.active s.code len.toNat s.repeatN.toNat = true) :
    exec (.send len) s = .next (raiseErr .degenerate s) := by
  simp [exec, execSend, Nat.not_lt.mpr hl, hc, hd]

theorem exec_send_accepted {s : State} {len : BitVec 6} (hl : len.toNat ≤ 32) (hc : s.configured = true)
    (hd : isDegenerate s.active s.code len.toNat s.repeatN.toNat = false) :
    exec (.send len) s = .next (startSend (program s.active s.code len.toNat s.repeatN.toNat) s) := by
  simp [exec, execSend, Nat.not_lt.mpr hl, hc, hd]

/-- R120: a SEND after which BUSY = 1, where BUSY was 0, has been accepted. -/
theorem eq_startSend_of_busy {s t : State} {len : BitVec 6} (h : exec (.send len) s = .next t) (hb : s.busy = false)
    (ht : t.busy = true) : t = startSend (program s.active s.code len.toNat s.repeatN.toNat) s := by
  cases exec_next h with
  | send => rfl
  | _ => simp [hb] at ht

/-- Settles O22: the state that an accepted SEND starts. -/
theorem sendStarts : Obligations.SendStarts :=
  fun _ _ hl hc hd => exec_send_accepted hl hc hd

/-- Settles O23: the three refusals, each with the tests before it passed. -/
theorem sendErrorsInOrder : Obligations.SendErrorsInOrder := by
  rintro s len c (⟨hl, rfl⟩ | ⟨hl, hc, rfl⟩ | ⟨hl, hc, hd, rfl⟩)
  · exact exec_send_badLength hl
  · exact exec_send_notConfigured hl hc
  · exact exec_send_degenerate hl hc hd

/-! ### Degenerate timings (R125) -/

theorem emptyTiming_iff {t : Half × Half} : emptyTiming t = true ↔ t.1 = 0#16 ∧ t.2 = 0#16 := by
  simp [emptyTiming]

/-- R123: the bits of a code are those at positions L-1 down to 0. -/
theorem codeBits_eq_map (c : Word) (l : Nat) : codeBits c l = (List.range l).reverse.map c.getLsbD := by
  induction l with
  | zero => rfl
  | succ l ih => simp [codeBits, ih, List.range_succ]

theorem mem_codeBits {c : Word} {l : Nat} {b : Bool} : b ∈ codeBits c l ↔ ∃ i < l, c.getLsbD i = b := by
  simp [codeBits_eq_map]

/-- R125: a transmission is degenerate where its sync timing or the timing of a bit it sends is (0, 0). -/
theorem isDegenerate_iff {p : Protocol} {c : Word} {l n : Nat} : isDegenerate p c l n = true ↔
    1 ≤ n ∧ (emptyTiming (syncTiming p) = true ∨ ∃ b ∈ codeBits c l, emptyTiming (bitTiming p b) = true) := by
  simp [isDegenerate]

/-- R122: a bit with timing (0, 0) is a 1 under an empty one timing or a 0 under an empty zero timing. -/
theorem exists_emptyTiming_iff {p : Protocol} {c : Word} {l : Nat} :
    (∃ b ∈ codeBits c l, emptyTiming (bitTiming p b) = true) ↔
      (∃ i, i < l ∧ c.getLsbD i = true ∧ p.oneH = 0#16 ∧ p.oneL = 0#16) ∨
      (∃ i, i < l ∧ c.getLsbD i = false ∧ p.zeroH = 0#16 ∧ p.zeroL = 0#16) := by
  constructor
  · rintro ⟨b, hb, hempty⟩
    obtain ⟨i, hi, hbit⟩ := mem_codeBits.mp hb
    cases b with
    | true => exact .inl ⟨i, hi, hbit, emptyTiming_iff.mp hempty⟩
    | false => exact .inr ⟨i, hi, hbit, emptyTiming_iff.mp hempty⟩
  · rintro (⟨i, hi, hbit, hempty⟩ | ⟨i, hi, hbit, hempty⟩)
    · exact ⟨true, mem_codeBits.mpr ⟨i, hi, hbit⟩, emptyTiming_iff.mpr hempty⟩
    · exact ⟨false, mem_codeBits.mpr ⟨i, hi, hbit⟩, emptyTiming_iff.mpr hempty⟩

/-- Settles O24: the empty timings that a transmission uses, and the refusal of SEND. -/
theorem degenerateExactly : Obligations.DegenerateExactly := by
  refine ⟨fun p c l n => ?_, fun s len hl hc hd => exec_send_degenerate hl hc hd⟩
  rw [isDegenerate_iff, exists_emptyTiming_iff, emptyTiming_iff]
  rfl

/-! ### The pulse program (R121 to R124) -/

/-- R121, R124: every element of the frames is a level unit. -/
theorem mem_frames_levels {p : Protocol} {c : Word} {l n : Nat} {e : Elem}
    (he : e ∈ (List.replicate n (frame p c l)).flatten) : e = .write .act ∨ e = .write .idl := by
  obtain ⟨f, hf, hef⟩ := List.mem_flatten.mp he
  rw [List.eq_of_mem_replicate hf] at hef
  exact mem_frame_levels hef

theorem program_length (p : Protocol) (c : Word) (l n : Nat) : (program p c l n).length = n * frameTicks p c l + 2 := by
  simp [program]

/-- An element that no frame holds occurs in a program as often as in TRAIL, DISARM. -/
theorem count_program {e : Elem} (hact : e ≠ .write .act) (hidl : e ≠ .write .idl) (p : Protocol) (c : Word) (l n : Nat) :
    (program p c l n).count e = [Elem.write .trail, .disarm].count e := by
  have hframes : (List.replicate n (frame p c l)).flatten.count e = 0 :=
    List.count_eq_zero.mpr fun he => (mem_frames_levels he).elim hact hidl
  rw [program, List.count_append, hframes, Nat.zero_add]

/-- Settles O25: the rule's expression is the program by unfolding; its length and counts are those of its two parts. -/
theorem programOfSend : Obligations.ProgramOfSend := by
  intro p c l n
  refine ⟨?_, program_length p c l n, ?_, ?_, ?_⟩
  · simp only [program, frame, codeBits_eq_map, List.flatMap_map, bitTiming, apply_ite units]
    rfl
  · exact count_program (by decide) (by decide) p c l n
  · exact count_program (by decide) (by decide) p c l n
  · simp [program]

/-- R133: the bits sent are bits 0 to L-1 of the code. -/
theorem codeBits_congr {c c' : Word} {l : Nat} (h : ∀ i, i < l → c.getLsbD i = c'.getLsbD i) :
    codeBits c l = codeBits c' l := by
  rw [codeBits_eq_map, codeBits_eq_map]
  exact List.map_congr_left fun i hi => h i (by simpa using hi)

/-- R133: V and V mod 2^L agree on bits 0 to L-1. -/
theorem getLsbD_mod_two_pow {c : Word} {l i : Nat} (hl : l ≤ 32) (hi : i < l) :
    c.getLsbD i = (BitVec.ofNat 32 (c.toNat % 2 ^ l)).getLsbD i := by
  have hi' : i < 32 := by omega
  rw [BitVec.getLsbD_ofNat]
  simp [hi, hi', BitVec.testBit_toNat]

/-- Settles O27: program and refusal read the code through the bits sent alone. -/
theorem highCodeBitsNotSent : Obligations.HighCodeBitsNotSent := by
  have hprogram : ∀ (p : Protocol) {c c' : Word} {l : Nat} (n : Nat), (∀ i, i < l → c.getLsbD i = c'.getLsbD i) →
      program p c l n = program p c' l n := fun p c c' l n h => by simp only [program, frame, codeBits_congr h]
  refine ⟨fun p c c' l n h => ⟨hprogram p n h, by simp only [isDegenerate, codeBits_congr h]⟩, fun p c l n hl => ?_⟩
  exact hprogram p n fun i hi => getLsbD_mod_two_pow hl hi

/-! ### Tick counts (R135) -/

theorem sum_map_bits (f : Bool → Nat) (bs : List Bool) :
    (bs.map f).sum = bs.count true * f true + bs.count false * f false := by
  induction bs with
  | nil => simp
  | cons b bs ih => cases b <;> simp [ih] <;> ring

/-- R135: F by the number of its 1 bits. -/
theorem frameTicks_eq (p : Protocol) (c : Word) (l : Nat) :
    frameTicks p c l = (codeBits c l).count true * timingTicks (bitTiming p true) +
      (l - (codeBits c l).count true) * timingTicks (bitTiming p false) + timingTicks (syncTiming p) := by
  have hcount : (codeBits c l).count true + (codeBits c l).count false = l := by
    simp [List.count_true_add_count_false]
  rw [frameTicks, sum_map_bits, show (codeBits c l).count false = l - (codeBits c l).count true by omega]

theorem timingTicks_le (t : Half × Half) : timingTicks t ≤ 131070 := by
  have hh := t.1.isLt
  have hl := t.2.isLt
  unfold timingTicks
  omega

/-- R135: a frame has at most L + 1 pulses of at most 2 (2^16 - 1) ticks. -/
theorem frameTicks_le (p : Protocol) (c : Word) (l : Nat) : frameTicks p c l ≤ (l + 1) * 131070 := by
  have hsync := timingTicks_le (syncTiming p)
  have hbits : ((codeBits c l).map fun b => timingTicks (bitTiming p b)).sum ≤ l * 131070 := by
    simpa using List.sum_le_card_nsmul ((codeBits c l).map fun b => timingTicks (bitTiming p b)) 131070
      (List.forall_mem_map.mpr fun _ _ => timingTicks_le _)
  unfold frameTicks
  omega

/-- Settles O26: the closed form counts the 1 bits, and 33 longest pulses in 65535 frames take fewer than 2^39 ticks. -/
theorem frameTickCounts : Obligations.FrameTickCounts := by
  refine ⟨fun p c l => ?_, fun p c l n hl => ?_⟩
  · have hones : (codeBits c l).count true = ((List.range l).filter fun i => c.getLsbD i).length := by
      rw [codeBits_eq_map, List.map_reverse, List.count_reverse, List.count, List.countP_map, List.countP_eq_length_filter]
      simp [Function.comp_def]
    rw [frameTicks_eq, hones]
    rfl
  · have hF : frameTicks p c l ≤ 33 * 131070 := (frameTicks_le p c l).trans (Nat.mul_le_mul_right _ (by omega))
    have hn : n.toNat ≤ 65535 := by have := n.isLt; omega
    have hmul := Nat.mul_le_mul hn hF
    unfold sendConsumes
    omega

/-! ### No repeats, and length 0 (R131, R132) -/

theorem isDegenerate_zero_repeats (p : Protocol) (c : Word) (l : Nat) : isDegenerate p c l 0 = false := rfl

/-- Settles O28: the two programs, each by the definition at 0. -/
theorem zeroRepeatsAndZeroLength : Obligations.ZeroRepeatsAndZeroLength := by
  refine ⟨fun s len hc hl hn => ?_, fun s hc hd => ?_⟩
  · have hzero : s.repeatN.toNat = 0 := by simp [hn]
    have hd : isDegenerate s.active s.code len.toNat s.repeatN.toNat = false := by
      rw [hzero, isDegenerate_zero_repeats]
    refine ⟨_, exec_send_accepted hl hc hd, ?_, rfl, rfl, rfl⟩
    simp [program, hzero]
  · exact ⟨_, exec_send_accepted (by decide) hc hd, rfl⟩

end Sys2Proof.Machine
end

section
/-! PROOFS. The transmission family (41_transmit): the engine's steps, and who writes the pin and the timer. -/

namespace Sys2Proof.Machine

/-! ### The engine's steps (R126 to R128) -/

theorem step_engine {s : State} (ha : s.nextAgent = .engine) : step s = .next (engineStep s.afterPick) := by
  simp [step, agentStep, ha]

theorem engineStep_of_write {s : State} {k : Kind} {rest : List Elem} (hb : s.busy = true) (hs : s.seq = .write k :: rest)
    (hf : s.tickFlag = true) : engineStep s = consume k rest s := by
  simp [engineStep, hb, hs, hf]

theorem engineStep_of_disarm {s : State} {rest : List Elem} (hb : s.busy = true) (hs : s.seq = .disarm :: rest) :
    engineStep s = disarm s := by
  simp [engineStep, hb, hs]

/-- R126, R127: a pin write waits for the tick flag. -/
theorem step_engine_waits {s : State} {k : Kind} {rest : List Elem} (ha : s.nextAgent = .engine)
    (hs : s.seq = .write k :: rest) (hf : s.tickFlag = false) : step s = .next s.afterPick :=
  disabledAgentHolds.1 s (by simp [ha, State.enabled, hs, hf])

/-- R126, R127: with the tick flag set, a pin write is consumed. -/
theorem step_engine_consumes {s : State} {k : Kind} {rest : List Elem} (ha : s.nextAgent = .engine) (hb : s.busy = true)
    (hs : s.seq = .write k :: rest) (hf : s.tickFlag = true) : step s = .next (consume k rest s.afterPick) := by
  rw [step_engine ha, engineStep_of_write (by simpa using hb) (by simpa using hs) (by simpa using hf)]

theorem step_engine_disarms {s : State} {rest : List Elem} (ha : s.nextAgent = .engine) (hb : s.busy = true)
    (hs : s.seq = .disarm :: rest) : step s = .next (disarm s.afterPick) := by
  rw [step_engine ha, engineStep_of_disarm (by simpa using hb) (by simpa using hs)]

/-- A consume after the choice of the agent, with the values of the state before it. -/
theorem consume_afterPick (k : Kind) (rest : List Elem) (s : State) :
    consume k rest s.afterPick = { s.afterPick with
      tickFlag := false
      dataOut := levelOf k s
      ghost := { s.ghost with wave := s.ghost.wave ++ [⟨s.ghost.sends, s.ghost.tickNo, levelOf k s, k⟩] }
      seq := rest } := by
  simp [consume]

/-- Settles O30: a level unit is a pin write whose level is that of its kind. -/
theorem levelUnitStep : Obligations.LevelUnitStep := by
  intro s k rest ha hb hs hk
  have hlevel : levelOf k s = if k = .act then s.actLvl else !s.actLvl := by
    cases k with
    | trail => exact absurd rfl hk
    | _ => rfl
  refine ⟨step_engine_waits ha hs, fun hf => ⟨levelOf k s, hlevel, ?_⟩⟩
  rw [step_engine_consumes ha hb hs hf, consume_afterPick]

/-- Settles O31: the trailing tick is a pin write of the end level. -/
theorem trailingTickStep : Obligations.TrailingTickStep := by
  intro s rest ha hb hs
  have hlevel : levelOf .trail s = if s.env.endLevel = .idle then !s.actLvl else false := by
    cases he : s.env.endLevel with
    | idle => exact levelOf_trail_idle he
    | low => exact levelOf_trail_low he
  refine ⟨step_engine_waits ha hs, fun hf => ⟨levelOf .trail s, hlevel, ?_⟩⟩
  rw [step_engine_consumes ha hb hs hf, consume_afterPick]

/-- Settles O32: DISARM has no test but BUSY and the head of SEQ. -/
theorem disarmStep : Obligations.DisarmStep :=
  fun _ _ ha hb hs => step_engine_disarms ha hb hs

/-! ### The pin and the timer (R39, R41, R139) -/

/-- A command writes no pin, and TICK_ARMED only where it is a SEND that starts. -/
theorem CommandChange.pin_and_timer {s t : State} {i : Instr} (h : CommandChange s i t) :
    t.dataOut = s.dataOut ∧ (t.tickArmed = s.tickArmed ∨ t.busy = true ∧ ∃ len, i = .send len) := by
  cases h with
  | send len => exact ⟨rfl, .inr ⟨rfl, len, rfl⟩⟩
  | _ => exact ⟨by simp, .inl (by simp)⟩

/-- Settles O46: the writers of the pin and of the timer among the changes of a step. -/
theorem pinAndTimerOwnership : Obligations.PinAndTimerOwnership := by
  intro s t h
  cases step_next h with
  | command ha hh hb op rest ho i hi _ ht =>
    obtain ⟨hpin, harmed | ⟨hbusy, len, rfl⟩⟩ := ht.pin_and_timer
    · exact ⟨fun hne => absurd (by simpa using hpin) hne, fun hne => absurd (by simpa using harmed) hne⟩
    · exact ⟨fun hne => absurd (by simpa using hpin) hne, fun _ => .inl ⟨ha, hb, op, rest, len, ho, hi, hbusy⟩⟩
  | consume ha hb k rest hs hf => exact ⟨fun _ => .inl ⟨ha, hb, hf, k, rest, hs, by simp⟩, by simp⟩
  | disarm ha hb rest hs => exact ⟨by simp, fun _ => .inr (.inl ⟨ha, rest, hs⟩)⟩
  | reset ha hw => exact ⟨fun _ => .inr ⟨ha, hw⟩, fun _ => .inr (.inr ⟨ha, hw⟩)⟩
  | _ => simp

/-! ### No ticks, no progress (R137) -/

/-- No run lowers SENDS. -/
theorem Reaches.sends_le {s t : State} (h : Reaches s t) : s.ghost.sends ≤ t.ghost.sends :=
  h.keeps (P := fun u => s.ghost.sends ≤ u.ghost.sends) (fun _ _ hu hstep => hu.trans (step_sends_le hstep)) le_rfl

/-- No run lowers LOST. -/
theorem Reaches.lost_le {s t : State} (h : Reaches s t) : s.ghost.lost ≤ t.ghost.lost :=
  h.keeps (P := fun u => s.ghost.lost ≤ u.ghost.lost) (fun _ _ hu hstep => hu.trans (step_lost_le hstep)) le_rfl

/-- Only the start of a SEND and a reset lower TICK_NO (R120, R240). -/
theorem step_tickNo_le {s t : State} (h : step s = .next t) (hsends : t.ghost.sends = s.ghost.sends)
    (hresets : t.ghost.resets = s.ghost.resets) : s.ghost.tickNo ≤ t.ghost.tickNo := by
  cases step_next h with
  | command ha hh hb op rest ho i hi _ ht =>
    obtain ⟨htick, -⟩ := ht.ticks_of_sends_eq (by simpa using hsends)
    simp [htick]
  | reset => simp at hresets
  | _ => simp

/-- A run with no reset and no start of a SEND has none up to its last step. -/
theorem Reaches.sends_resets_eq {s t u : State} (h : Reaches s t) (hstep : step t = .next u)
    (hsends : u.ghost.sends = s.ghost.sends) (hresets : u.ghost.resets = s.ghost.resets) :
    t.ghost.sends = s.ghost.sends ∧ t.ghost.resets = s.ghost.resets := by
  have := h.sends_le
  have := h.resets_le
  have := step_sends_le hstep
  have := step_resets_le hstep
  omega

theorem Reaches.tickNo_le {s t : State} (h : Reaches s t) (hsends : t.ghost.sends = s.ghost.sends)
    (hresets : t.ghost.resets = s.ghost.resets) : s.ghost.tickNo ≤ t.ghost.tickNo := by
  induction h with
  | refl => exact le_rfl
  | tail hreach hstep ih =>
    obtain ⟨hsends', hresets'⟩ := hreach.sends_resets_eq hstep hsends hresets
    exact (ih hsends' hresets').trans (step_tickNo_le hstep (hsends.trans hsends'.symm) (hresets.trans hresets'.symm))

/-- R137: a step from a pin write that waits for its tick is a TICK, a reset, or leaves the transmission as it is. -/
theorem step_of_waiting {s t : State} {k : Kind} {rest : List Elem} (h : step s = .next t) (hb : s.busy = true)
    (hs : s.seq = .write k :: rest) (hf : s.tickFlag = false) :
    t.ghost.tickNo = s.ghost.tickNo + 1 ∨ t.ghost.resets = s.ghost.resets + 1 ∨
      (t.busy = true ∧ t.seq = s.seq ∧ t.tickFlag = false ∧ t.dataOut = s.dataOut ∧ t.ghost.wave = s.ghost.wave) := by
  have hnidle : s.busy ≠ false := by simp [hb]
  cases step_next h with
  | command _ _ hb' | badCommand _ _ hb' => exact absurd hb' hnidle
  | consume _ _ _ _ _ hf' => simp [hf] at hf'
  | disarm _ _ _ hs' => simp [hs] at hs'
  | tick => exact .inl (by simp)
  | reset => exact .inr (.inl (by simp))
  | _ => exact .inr (.inr (by simp [hb, hf]))

/-- Settles O51: TICK_NO does not fall without a SEND or a reset, so no step of the run is a TICK. -/
theorem transmissionWithoutTicksHolds : Obligations.TransmissionWithoutTicksHolds := by
  intro s t k rest hb hs hf h htick hresets hsends
  induction h with
  | refl => exact ⟨hb, rfl, hf, rfl, rfl⟩
  | @tail t u hreach hstep ih =>
    obtain ⟨hsends', hresets'⟩ := hreach.sends_resets_eq hstep hsends hresets
    have hup := step_tickNo_le hstep (hsends.trans hsends'.symm) (hresets.trans hresets'.symm)
    have htick' : t.ghost.tickNo = s.ghost.tickNo := by have := hreach.tickNo_le hsends' hresets'; omega
    obtain ⟨hb', hs', hf', hpin', hwave'⟩ := ih htick' hresets' hsends'
    obtain hmore | hreset | ⟨hb'', hs'', hf'', hpin'', hwave''⟩ := step_of_waiting hstep hb' (hs'.trans hs) hf'
    · omega
    · omega
    · exact ⟨hb'', hs''.trans hs', hf'', hpin''.trans hpin', hwave''.trans hwave'⟩

end Sys2Proof.Machine
end

section
/-! PROOFS. The transmission family (41_transmit), the waveform: tick exactness, and the ideal schedule. -/

namespace Sys2Proof.Machine

/-! ### The pin writes of a program, by position -/

theorem getElem?_writes_disarm {ks : List Kind} {m : Nat} {e : Elem} (h : (ks.map Elem.write ++ [.disarm])[m]? = some e) :
    (e = .disarm ∧ m = ks.length) ∨ ∃ k, e = .write k ∧ ks[m]? = some k := by
  by_cases hm : m < ks.length
  · obtain ⟨k, hk, rfl⟩ : ∃ k, ks[m]? = some k ∧ Elem.write k = e := by simpa [List.getElem?_append_left, hm] using h
    exact .inr ⟨k, rfl, hk⟩
  · obtain ⟨hlt, he⟩ := List.getElem?_eq_some_iff.mp h
    have hlast : m = ks.length := by simp at hlt; omega
    subst hlast
    exact .inl ⟨by simpa using he.symm, rfl⟩

/-- The element of a program at a position is DISARM, after all consumes, or the pin write of that position. -/
theorem getElem?_program {p : Protocol} {c : Word} {l n m : Nat} {e : Elem} (h : (program p c l n)[m]? = some e) :
    (e = .disarm ∧ m = sendConsumes p c l n) ∨ ∃ k, e = .write k ∧ (pinWrites (program p c l n))[m]? = some k := by
  obtain ⟨hprogram, hlength⟩ := program_pinWrites p c l n
  rw [hprogram] at h
  rw [← hlength]
  exact getElem?_writes_disarm h

/-- R121: the last pin write of a program is TRAIL. -/
theorem getLast?_pinWrites_program (p : Protocol) (c : Word) (l n : Nat) :
    (pinWrites (program p c l n)).getLast? = some .trail := by
  obtain ⟨hprogram, -⟩ := program_pinWrites p c l n
  have hsplit : (pinWrites (program p c l n)).map Elem.write ++ [.disarm] =
      ((List.replicate n (frame p c l)).flatten ++ [.write .trail]) ++ [.disarm] := by
    rw [← hprogram, program]; simp
  simpa using congrArg List.getLast? (List.append_cancel_right hsplit)

theorem sendRecords_length (s : State) (l : Nat) :
    (sendRecords s l).length = sendConsumes s.active s.code l s.repeatN.toNat := by
  rw [sendRecords, recordsFrom_length, (program_pinWrites ..).2]

/-! ### A SEND in progress (R130) -/

/-- `m` consumes after the SEND of length `l` that started in `s` with TICK_FLAG = 0, no tick having been lost: the pin writes
so far are the program's first `m`, the j-th at tick j. While BUSY = 1 the levels are those of `s`, as no CONFIGURE can run. -/
structure SendProgress (s : State) (l m : Nat) (u : State) : Prop where
  le : m ≤ sendConsumes s.active s.code l s.repeatN.toNat
  wave : u.ghost.wave = s.ghost.wave ++ (sendRecords s l).take m
  tickNo : u.ghost.tickNo = m + u.tickFlag.toNat
  pin : u.dataOut = (((sendRecords s l).take m).getLast?.map (·.level)).getD s.dataOut
  seq : u.busy = true → u.seq = (program s.active s.code l s.repeatN.toNat).drop m
  finished : u.busy = false → m = sendConsumes s.active s.code l s.repeatN.toNat
  sends : u.ghost.sends = s.ghost.sends + 1
  level : u.busy = true → ∀ k, levelOf k u = levelOf k s

@[simp] theorem startSend_levelOf (k : Kind) (us : List Elem) (s : State) :
    levelOf k (startSend us s) = levelOf k s := levelOf_congr rfl rfl k

@[simp] theorem consume_levelOf (k k' : Kind) (rest : List Elem) (s : State) :
    levelOf k (consume k' rest s) = levelOf k s := levelOf_congr rfl rfl k

@[simp] theorem takeTick_levelOf (k : Kind) (s : State) : levelOf k (takeTick s) = levelOf k s :=
  levelOf_congr rfl rfl k

/-- R120: a SEND starts with no consume and no tick. -/
theorem SendProgress.start {s : State} (l : Nat) (hf : s.tickFlag = false) :
    SendProgress s l 0 (startSend (program s.active s.code l s.repeatN.toNat) s) := by
  constructor <;> simp [hf]

theorem SendProgress.congr {s u v : State} {l m : Nat} (h : SendProgress s l m u)
    (hkept : v.ghost.wave = u.ghost.wave ∧ v.ghost.tickNo = u.ghost.tickNo ∧ v.tickFlag = u.tickFlag ∧
      v.dataOut = u.dataOut ∧ v.busy = u.busy ∧ v.seq = u.seq ∧ v.ghost.sends = u.ghost.sends)
    (hlevel : u.busy = true → ∀ k, levelOf k v = levelOf k u) : SendProgress s l m v := by
  obtain ⟨hwave, htick, hflag, hpin, hbusy, hseq, hsends⟩ := hkept
  exact
    { le := h.le
      wave := hwave.trans h.wave
      tickNo := by rw [htick, hflag, h.tickNo]
      pin := hpin.trans h.pin
      seq := fun hb => hseq.trans (h.seq (hbusy ▸ hb))
      finished := fun hb => h.finished (hbusy ▸ hb)
      sends := hsends.trans h.sends
      level := fun hb k => (hlevel (hbusy ▸ hb) k).trans (h.level (hbusy ▸ hb) k) }

/-- R126, R127: the consume after `m` others is of the next pin write, at tick `m + 1`. -/
theorem SendProgress.consume {s u : State} {l m : Nat} {k : Kind} {rest : List Elem} (h : SendProgress s l m u)
    (hb : u.busy = true) (hs : u.seq = .write k :: rest) (hf : u.tickFlag = true) :
    SendProgress s l (m + 1) (consume k rest u) := by
  have hdrop := (h.seq hb).symm.trans hs
  have hhead : (program s.active s.code l s.repeatN.toNat)[m]? = some (.write k) := by
    rw [← List.head?_drop, hdrop]; rfl
  have hrest : (program s.active s.code l s.repeatN.toNat).drop (m + 1) = rest := by
    simpa using congrArg List.tail hdrop
  obtain ⟨he, -⟩ | ⟨_, he, hk⟩ := getElem?_program hhead
  · cases he
  cases he
  have hrec : (sendRecords s l)[m]? = some ⟨s.ghost.sends + 1, 1 + m, levelOf k s, k⟩ := recordsFrom_getElem? hk
  have htake : (sendRecords s l).take (m + 1) =
      (sendRecords s l).take m ++ [⟨s.ghost.sends + 1, 1 + m, levelOf k s, k⟩] := by
    rw [List.take_add_one, hrec]; rfl
  have hlt : m < sendConsumes s.active s.code l s.repeatN.toNat := by
    rw [← sendRecords_length]
    exact (List.getElem?_eq_some_iff.mp hrec).1
  have hlevel := h.level hb
  exact
    { le := hlt
      wave := by simp [htake, h.wave, h.tickNo, hf, h.sends, hlevel, Nat.add_comm]
      tickNo := by simp [h.tickNo, hf]
      pin := by simp [htake, hlevel]
      seq := fun _ => hrest.symm
      finished := by simp [hb]
      sends := h.sends
      level := fun _ k' => (consume_levelOf k' k rest u).trans (hlevel k') }

/-- R128: DISARM comes after all consumes. -/
theorem SendProgress.disarm {s u : State} {l m : Nat} {rest : List Elem} (h : SendProgress s l m u) (hb : u.busy = true)
    (hs : u.seq = .disarm :: rest) : SendProgress s l m (disarm u) := by
  have hhead : (program s.active s.code l s.repeatN.toNat)[m]? = some .disarm := by
    rw [← List.head?_drop, ← h.seq hb, hs]; rfl
  obtain ⟨-, hm⟩ | ⟨_, he, -⟩ := getElem?_program hhead
  · exact { h with seq := by simp, finished := fun _ => hm, level := by simp }
  · cases he

/-- R208: a TICK that is not lost is the tick of the next consume. -/
theorem SendProgress.takeTick {s u : State} {l m : Nat} (h : SendProgress s l m u) (hf : u.tickFlag = false) :
    SendProgress s l m (takeTick u) :=
  { h with
    tickNo := by simp [h.tickNo, hf]
    level := fun hb k => (takeTick_levelOf k u).trans (h.level hb k) }

/-- R130: a step that loses no tick, resets nothing and starts no SEND is at most one more consume. -/
theorem SendProgress.step {s u v : State} {l m : Nat} (h : SendProgress s l m u) (hstep : step u = .next v)
    (hlost : v.ghost.lost = u.ghost.lost) (hresets : v.ghost.resets = u.ghost.resets)
    (hsends : v.ghost.sends = u.ghost.sends) : ∃ m', SendProgress s l m' v := by
  have hp : SendProgress s l m u.afterPick := h.congr (by simp) (by simp)
  cases step_next hstep with
  | command ha hh hb op rest ho i hi _ ht =>
    cases ht with
    | send => simp at hsends
    | _ => exact ⟨m, h.congr (by simp) (by simp [hb])⟩
  | consume ha hb k rest hs hf => exact ⟨m + 1, hp.consume (by simpa using hb) (by simpa using hs) (by simpa using hf)⟩
  | disarm ha hb rest hs => exact ⟨m, hp.disarm (by simpa using hb) (by simpa using hs)⟩
  | tick => exact ⟨m, hp.takeTick (by simpa using hlost)⟩
  | reset => simp at hresets
  | _ => exact ⟨m, h.congr (by simp) fun _ k => levelOf_congr (by simp) (by simp) k⟩

/-- R130: along a run with no lost tick, no reset and no later SEND, the transmission only goes on. -/
theorem SendProgress.reaches {s t u : State} {l : Nat} (h : SendProgress s l 0 t) (hreach : Reaches t u)
    (hlost : u.ghost.lost = t.ghost.lost) (hresets : u.ghost.resets = t.ghost.resets)
    (hsends : u.ghost.sends = t.ghost.sends) : ∃ m, SendProgress s l m u := by
  induction hreach with
  | refl => exact ⟨0, h⟩
  | tail hreach hstep ih =>
    obtain ⟨hsends', hresets'⟩ := hreach.sends_resets_eq hstep hsends hresets
    have hlost' := hreach.lost_le
    have hlost'' := step_lost_le hstep
    obtain ⟨m, hm⟩ := ih (by omega) hresets' hsends'
    exact hm.step hstep (by omega) (hresets.trans hresets'.symm) (hsends.trans hsends'.symm)

/-- Settles O58: what is known of a SEND in progress at every state of the run. -/
theorem tickExactness : Obligations.TickExactness := by
  intro s t u len hb hf hexec ht hreach hlost hresets hsends
  obtain rfl := eq_startSend_of_busy hexec hb ht
  obtain ⟨m, hm⟩ := (SendProgress.start len.toNat hf).reaches hreach hlost hresets hsends
  exact ⟨m, hm.le, hm.wave, hm.tickNo, hm.pin, hm.seq, hm.finished⟩

/-! ### The ideal schedule (95_test_vectors) -/

/-- The state once the pin writes `ks`, a tick before each, and DISARM have been made from `s`. -/
def transmitted (ks : List Kind) (agents : List Agent) (s : State) : State :=
  { s with
    seq := [], busy := false, tickArmed := false, tickFlag := false
    dataOut := (ks.getLast?.map (levelOf · s)).getD s.dataOut
    ghost := { s.ghost with
      tickNo := ks.length + s.ghost.tickNo
      wave := s.ghost.wave ++ recordsFrom s.ghost.sends (levelOf · s) (s.ghost.tickNo + 1) ks }
    env := { s.env with sched := agents } }

/-- The state that a TICK and the consume of `k` make of `s`, the schedule then at `agents`. -/
def tickedConsume (k : Kind) (rest : List Elem) (agents : List Agent) (s : State) : State :=
  { s with
    seq := rest, tickFlag := false
    dataOut := levelOf k s
    ghost := { s.ghost with
      tickNo := s.ghost.tickNo + 1
      wave := s.ghost.wave ++ [⟨s.ghost.sends, s.ghost.tickNo + 1, levelOf k s, k⟩] }
    env := { s.env with sched := agents } }

/-- One pin write more in front is a tick and its consume first. -/
theorem transmitted_tickedConsume (k : Kind) (ks : List Kind) (rest : List Elem) (sched agents : List Agent) (s : State) :
    transmitted ks agents (tickedConsume k rest sched s) = transmitted (k :: ks) agents s := by
  have hlevel : (levelOf · (tickedConsume k rest sched s)) = (levelOf · s) := funext (levelOf_congr rfl rfl)
  have hlast : (ks.getLast?.map (levelOf · s)).getD (levelOf k s) =
      ((k :: ks).getLast?.map (levelOf · s)).getD s.dataOut := by
    simp [List.getLast?_cons, Option.getD_map]
  unfold transmitted
  rw [hlevel, ← hlast]
  simp [tickedConsume, recordsFrom, Nat.add_comm, Nat.add_left_comm]

/-- R208: a tick that finds the flag clear is not lost. -/
theorem takeTick_of_clear {s : State} (hf : s.tickFlag = false) :
    takeTick s = { s with tickFlag := true, ghost := { s.ghost with tickNo := s.ghost.tickNo + 1 } } := by
  simp [takeTick, hf]

/-- R208, R126, R127: under the schedule TICK, ENGINE an armed engine before a pin write makes it. -/
theorem run_tick_engine {s : State} {k : Kind} {rest : List Elem} {agents : List Agent} (n : Nat) (hb : s.busy = true)
    (harmed : s.tickArmed = true) (hf : s.tickFlag = false) (hs : s.seq = .write k :: rest)
    (hsched : s.env.sched = .tick :: .engine :: agents) :
    Host.Core.run core (n + 2) s = Host.Core.run core n (tickedConsume k rest agents s) := by
  have htick : step s = .next (takeTick s.afterPick) := by
    simp [step, agentStep, nextAgent_cons hsched, tickEvent, harmed]
  have hengine : (takeTick s.afterPick).env.sched = .engine :: agents := by simp [afterPick_cons hsched]
  have hconsume := step_engine_consumes (nextAgent_cons hengine) (by simpa using hb) (by simpa using hs) rfl
  have hstate : consume k rest (takeTick s.afterPick).afterPick = tickedConsume k rest agents s := by
    rw [afterPick_cons hengine, afterPick_cons hsched, takeTick_of_clear (by exact hf)]
    rfl
  rw [hstate] at hconsume
  exact (run_succ (n + 1) htick).trans (run_succ n hconsume)

/-- Under the ideal schedule an engine with the pin writes `ks` and DISARM before it makes them all. -/
theorem run_idealSchedule (ks : List Kind) (agents : List Agent) {s : State} (hb : s.busy = true)
    (harmed : s.tickArmed = true) (hf : s.tickFlag = false) (hs : s.seq = ks.map .write ++ [.disarm])
    (hsched : s.env.sched = idealSchedule ks.length ++ agents) :
    Host.Core.run core (2 * ks.length + 1) s = .next (transmitted ks agents s) := by
  induction ks generalizing s with
  | nil =>
    have hpick : s.afterPick = { s with env := { s.env with sched := agents } } := afterPick_cons hsched
    refine (run_succ 0 (step_engine_disarms (nextAgent_cons hsched) hb hs)).trans (congrArg _ ?_)
    rw [hpick]
    simp [transmitted, recordsFrom, disarm, hf]
  | cons k ks ih =>
    have hticked := transmitted_tickedConsume k ks (ks.map .write ++ [.disarm]) (idealSchedule ks.length ++ agents) agents s
    exact ((run_tick_engine _ hb harmed hf hs hsched).trans (ih hb harmed rfl rfl rfl)).trans (congrArg _ hticked)

/-- Settles O59: the program is its pin writes and DISARM, and the last pin write is TRAIL. -/
theorem idealScheduleCompletesSend : Obligations.IdealScheduleCompletesSend := by
  intro s t len agents hf hexec ht hb
  obtain rfl := eq_startSend_of_busy hexec hb ht
  obtain ⟨hprogram, hlength⟩ := program_pinWrites s.active s.code len.toNat s.repeatN.toNat
  refine ⟨_, _, rfl, rfl, ?_⟩
  rw [← hlength]
  refine (run_idealSchedule (s := { startSend _ s with env := { s.env with sched := _ } })
    (pinWrites (program s.active s.code len.toNat s.repeatN.toNat)) agents rfl rfl hf hprogram rfl).trans (congrArg _ ?_)
  rw [transmitted, getLast?_pinWrites_program]
  rfl

end Sys2Proof.Machine
end

section
/-! PROOFS. The transmission family (41_transmit): the inversion law (R136). -/

namespace Sys2Proof.Machine

/-- The state `s` with all in which the states of a pair may differ taken from `x`: the polarity of the active protocol,
ACT_LVL, the pin, the records and what the host has read. -/
def State.twin (s x : State) : State :=
  { s with
    active := { s.active with inv := x.active.inv }
    actLvl := x.actLvl
    dataOut := x.dataOut
    ghost := { s.ghost with wave := x.ghost.wave }
    env := { s.env with reads := x.env.reads } }

section
variable {w w' : List WaveRec} {s s' x y t : State}

@[simp] theorem twin_ghost_sends : (s.twin x).ghost.sends = s.ghost.sends := rfl

@[simp] theorem twin_ghost_tickNo : (s.twin x).ghost.tickNo = s.ghost.tickNo := rfl

theorem InvertedPair.eq_twin (h : InvertedPair w w' s s') : s' = s.twin s' := h.same

/-- What makes the twin of `s` with the differences of `x` the second state of a pair. -/
theorem invertedPair_twin_iff : InvertedPair w w' s (s.twin x) ↔
    x.active.inv = (!s.active.inv) ∧ x.actLvl = (!s.actLvl) ∧
      ∃ v v', s.ghost.wave = w ++ v ∧ x.ghost.wave = w' ++ v' ∧ List.Forall₂ (invertedRecord s.env.endLevel) v v' :=
  ⟨fun h => ⟨h.polarity, h.level, h.waves⟩, fun ⟨hpolarity, hlevel, hwaves⟩ => ⟨rfl, hpolarity, hlevel, hwaves⟩⟩

/-- A pair is kept where neither state changes the polarity, the level, the records or P_END_LEVEL. -/
theorem InvertedPair.congr (h : InvertedPair w w' s (s.twin x))
    (hs : t.active = s.active ∧ t.actLvl = s.actLvl ∧ t.ghost.wave = s.ghost.wave ∧ t.env.endLevel = s.env.endLevel)
    (hx : y.active = x.active ∧ y.actLvl = x.actLvl ∧ y.ghost = x.ghost) : InvertedPair w w' t (t.twin y) := by
  obtain ⟨hactive, hlevel, hwave, hend⟩ := hs
  obtain ⟨hactive', hlevel', hghost'⟩ := hx
  rw [invertedPair_twin_iff] at h ⊢
  rwa [hactive, hlevel, hwave, hend, hactive', hlevel', hghost']

/-! ### SEND in both states -/

/-- R136: SEND answers a pair with a pair: its tests and its program do not read the polarity. -/
theorem InvertedPair.exec_send {len : BitVec 6} (h : InvertedPair w w' s s') (hexec : exec (.send len) s = .next t) :
    ∃ t', exec (.send len) s' = .next t' ∧ InvertedPair w w' t t' := by
  obtain ⟨x, rfl⟩ : ∃ x, s' = s.twin x := ⟨s', h.eq_twin⟩
  refine ⟨t.twin x, ?_, h.congr (by cases exec_next hexec <;> simp) ⟨rfl, rfl, rfl⟩⟩
  cases exec_next hexec with
  | badLength _ hl => exact exec_send_badLength hl
  | notConfigured _ hl hc => exact exec_send_notConfigured hl hc
  | degenerate _ hl hc hd => exact exec_send_degenerate hl hc hd
  | send _ hl hc hd => exact exec_send_accepted hl hc hd

/-! ### The engine in both states -/

/-- R136: the levels of a pair are complementary, but for TRAIL under P_END_LEVEL = LOW. -/
theorem InvertedPair.levelOf_eq (h : InvertedPair w w' s s') (k : Kind) :
    levelOf k s' = if k = .trail ∧ s.env.endLevel = .low then levelOf k s else !levelOf k s := by
  have hend : s'.env.endLevel = s.env.endLevel := by rw [h.same]
  cases k with
  | act => simp [levelOf_act, h.level]
  | idl => simp [levelOf_idl, h.level]
  | trail =>
    cases he : s.env.endLevel with
    | idle => simp [levelOf_trail_idle he, levelOf_trail_idle (hend.trans he), h.level]
    | low => simp [levelOf_trail_low he, levelOf_trail_low (hend.trans he)]

theorem InvertedPair.consume (h : InvertedPair w w' s s') (k : Kind) (rest : List Elem) :
    InvertedPair w w' (consume k rest s) (consume k rest s') := by
  have hlevel := h.levelOf_eq k
  obtain ⟨v, v', hv, hv', hrecords⟩ := h.waves
  obtain ⟨x, rfl⟩ : ∃ x, s' = s.twin x := ⟨s', h.eq_twin⟩
  have hrecord : invertedRecord s.env.endLevel ⟨s.ghost.sends, s.ghost.tickNo, levelOf k s, k⟩
      ⟨s.ghost.sends, s.ghost.tickNo, levelOf k (s.twin x), k⟩ := ⟨rfl, rfl, rfl, hlevel⟩
  refine ⟨rfl, h.polarity, h.level, _, _, ?_, ?_, List.rel_append hrecords (.cons hrecord .nil)⟩
  · simp [hv]
  · simp [hv']

/-- R126 to R128: the engine's steps, where it has one. -/
theorem engine_enabled_cases (h : s.enabled .engine = true) : s.busy = true ∧
    ((∃ k rest, s.seq = .write k :: rest ∧ s.tickFlag = true) ∨ ∃ rest, s.seq = .disarm :: rest) := by
  obtain ⟨hb, hs⟩ := Bool.and_eq_true_iff.mp h
  refine ⟨hb, ?_⟩
  match hseq : s.seq with
  | [] => simp [hseq] at hs
  | .write k :: rest => exact .inl ⟨k, rest, rfl, by simpa [hseq] using hs⟩
  | .disarm :: rest => exact .inr ⟨rest, rfl⟩

/-- The agents with an enabled step are the same in both states. -/
theorem twin_enabled (a : Agent) : (s.twin x).enabled a = s.enabled a := by
  cases a <;> rfl

theorem InvertedPair.engineStep (h : InvertedPair w w' s s') : InvertedPair w w' (engineStep s) (engineStep s') := by
  obtain ⟨x, rfl⟩ : ∃ x, s' = s.twin x := ⟨s', h.eq_twin⟩
  cases hen : s.enabled .engine with
  | false => rwa [engineStep_of_disabled hen, engineStep_of_disabled ((twin_enabled _).trans hen)]
  | true =>
    obtain ⟨hb, ⟨k, rest, hs, hf⟩ | ⟨rest, hs⟩⟩ := engine_enabled_cases hen
    · rw [engineStep_of_write hb hs hf, engineStep_of_write (s := s.twin x) hb hs hf]
      exact h.consume k rest
    · rw [engineStep_of_disarm hb hs, engineStep_of_disarm (s := s.twin x) hb hs]
      exact h.congr (y := x) ⟨rfl, rfl, rfl, rfl⟩ ⟨rfl, rfl, rfl⟩

/-! ### The other agents in both states -/

theorem afterPick_nil (h : s.env.sched = []) : s.afterPick = { s with env.drawNo := s.env.drawNo + 1 } := by
  simp [State.afterPick, h]

theorem twin_afterPick : (s.twin x).afterPick = s.afterPick.twin x := by
  cases hsched : s.env.sched with
  | nil => rw [afterPick_nil hsched, afterPick_nil (s := s.twin x) hsched]; rfl
  | cons a as => rw [afterPick_cons hsched, afterPick_cons (s := s.twin x) hsched]; rfl

theorem twin_tickEvent : tickEvent (s.twin x) = (tickEvent s).twin x :=
  (apply_ite (fun u : State => u.twin x) (s.tickArmed = true) (takeTick s) s).symm

theorem twin_writeReg (r : Reg) (v : Word) : writeReg r v (s.twin x) = (writeReg r v s).twin x := by
  cases r <;> rfl

/-- R62: a read may return different values in a pair, as STATUS shows the pin and ACT_LVL. -/
theorem twin_readAccess {a : HostAddr} {n : Width} {rest : List HostOp} (h : readAccess a n rest s = .next t) :
    ∃ v, readAccess a n rest (s.twin x) = .next (t.twin (x.recordRead v)) := by
  cases hoff : a.offset? s.env.base with
  | none => simp [readAccess, hoff] at h
  | some off =>
    cases had : admitted off n with
    | none =>
      rw [readAccess_bad rest hoff had] at h
      cases h
      exact ⟨0, readAccess_bad (s := s.twin x) rest hoff had⟩
    | some r =>
      obtain ⟨rfl, rfl⟩ := admitted_some had
      rw [readAccess_reg rest hoff] at h
      cases h
      exact ⟨readReg r (s.twin x), readAccess_reg (s := s.twin x) rest hoff⟩

theorem twin_writeAccess {a : HostAddr} {n : Width} {v : Word} {rest : List HostOp} (hb : s.busy = true)
    (h : writeAccess a n v rest s = .next t) : writeAccess a n v rest (s.twin x) = .next (t.twin x) := by
  cases hoff : a.offset? s.env.base with
  | none => simp [writeAccess, hoff] at h
  | some off =>
    cases had : admitted off n with
    | none =>
      rw [writeAccess_bad v rest hoff had] at h
      cases h
      exact writeAccess_bad (s := s.twin x) v rest hoff had
    | some r =>
      obtain ⟨rfl, rfl⟩ := admitted_some had
      by_cases hr : r = .cmd
      · subst hr
        rw [writeAccess_cmd_of_busy v rest hoff had hb] at h
        cases h
        exact writeAccess_cmd_of_busy (s := s.twin x) v rest hoff had hb
      · rw [writeAccess_reg v rest hr hoff] at h
        cases h
        rw [writeAccess_reg (s := s.twin x) v rest hr hoff, twin_writeReg]
        rfl

theorem hostStep_of_read {a : HostAddr} {n : Width} {rest : List HostOp} (hh : s.halted = false)
    (ht : s.env.todo = .read a n :: rest) : hostStep s = readAccess a n rest s := by
  simp [hostStep, hh, ht]

theorem hostStep_of_write {a : HostAddr} {n : Width} {v : Word} {rest : List HostOp} (hh : s.halted = false)
    (ht : s.env.todo = .write a n v :: rest) : hostStep s = writeAccess a n v rest s := by
  simp [hostStep, hh, ht]

/-- A host that BUSY = 1 keeps from commands (R69) does the same in both states but for the values it reads. -/
theorem twin_hostStep (hb : s.busy = true) (h : hostStep s = .next t) :
    ∃ reads, hostStep (s.twin x) = .next (t.twin { x with env.reads := reads }) := by
  cases hh : s.halted with
  | true =>
    rw [hostStep_of_halted hh] at h
    cases h
    exact ⟨x.env.reads, hostStep_of_halted (s := s.twin x) hh⟩
  | false =>
    match ht : s.env.todo with
    | [] =>
      rw [hostStep_of_todo_nil ht] at h
      cases h
      exact ⟨x.env.reads, hostStep_of_todo_nil (s := s.twin x) ht⟩
    | .read a n :: rest =>
      rw [hostStep_of_read hh ht] at h
      obtain ⟨v, hv⟩ := twin_readAccess (x := x) h
      exact ⟨_, (hostStep_of_read (s := s.twin x) hh ht).trans hv⟩
    | .write a n v :: rest =>
      rw [hostStep_of_write hh ht] at h
      exact ⟨x.env.reads, (hostStep_of_write (s := s.twin x) hh ht).trans (twin_writeAccess hb h)⟩

/-- While a transmission is in progress, every agent but the engine and an enabled watchdog does the same in both states. -/
theorem twin_agentStep {a : Agent} (hb : s.busy = true) (ha : a ≠ .engine) (hw : a = .wdt → s.pwr.wdtEn = false)
    (h : agentStep a s = .next t) :
    ∃ reads, agentStep a (s.twin x) = .next (t.twin { x with env.reads := reads }) := by
  cases a with
  | host => exact twin_hostStep hb h
  | engine => exact absurd rfl ha
  | tick => cases h; exact ⟨x.env.reads, congrArg _ twin_tickEvent⟩
  | edge => cases h; exact ⟨x.env.reads, rfl⟩
  | wdt =>
    rw [agentStep_of_disabled (a := .wdt) (hw rfl)] at h
    cases h
    exact ⟨x.env.reads, agentStep_of_disabled (a := .wdt) (s := s.twin x) (hw rfl)⟩

/-- R136: while a transmission is in progress and no WDT reset happens, every step of one state of a pair is a step of the
other, to a pair. -/
theorem InvertedPair.step (h : InvertedPair w w' s s') (hb : s.busy = true)
    (hw : s.nextAgent = .wdt → s.pwr.wdtEn = false) (hstep : step s = .next t) :
    ∃ t', step s' = .next t' ∧ InvertedPair w w' t t' := by
  obtain ⟨x, rfl⟩ : ∃ x, s' = s.twin x := ⟨s', h.eq_twin⟩
  have hagent : Machine.step (s.twin x) = agentStep s.nextAgent (s.afterPick.twin x) := by rw [← twin_afterPick]; rfl
  by_cases ha : s.nextAgent = .engine
  · have hpick : InvertedPair w w' s.afterPick (s.afterPick.twin x) := h.congr (by simp) ⟨rfl, rfl, rfl⟩
    rw [step_engine ha] at hstep
    cases hstep
    rw [hagent, ha]
    exact ⟨_, rfl, hpick.engineStep⟩
  · obtain ⟨reads, ht'⟩ := twin_agentStep (x := x) (s := s.afterPick) (by simpa using hb) ha (by simpa using hw) hstep
    obtain ⟨-, -, -, hactive, -, hlevel, -, hwave, -⟩ := noCancellation s t hb hstep ha hw
    exact ⟨_, hagent.trans ht', h.congr ⟨hactive, hlevel, hwave, step_endLevel hstep⟩ ⟨rfl, rfl, rfl⟩⟩

end

/-- Settles O60: a SEND and each later step keep the pair. -/
theorem inversionLaw : Obligations.InversionLaw :=
  ⟨fun _ _ _ _ _ _ h hexec => h.exec_send hexec, fun _ _ _ _ _ h hb hw hstep => h.step hb hw hstep⟩

end Sys2Proof.Machine
end

section
/-! PROOFS. The transmission family (41_transmit): the counter realisation (R129) emits the pulse program. -/

namespace Sys2Proof.Machine

/-- From `pos` the counters emit the elements `us`, one per step, and then stand at `pos'`. -/
def Emits (p : Protocol) (c : Word) (l : Nat) (pos : CounterPos) (us : List Elem) (pos' : CounterPos) : Prop :=
  ∀ steps, CounterPos.emitted p c l (us.length + steps) pos = us ++ CounterPos.emitted p c l steps pos'

/-- The kind of the units of a segment (R129). -/
def Seg.kind : Seg → Kind
  | .high => .act
  | .low => .idl

section
variable {p : Protocol} {c : Word} {l : Nat}

theorem Emits.nil (pos : CounterPos) : Emits p c l pos [] pos := fun steps => by simp

theorem Emits.append {pos pos' pos'' : CounterPos} {us vs : List Elem} (h : Emits p c l pos us pos')
    (h' : Emits p c l pos' vs pos'') : Emits p c l pos (us ++ vs) pos'' := fun steps => by
  rw [List.length_append, Nat.add_assoc, h, h', List.append_assoc]

theorem Emits.step {pos : CounterPos} {e : Elem} (h : pos.emit = [e]) : Emits p c l pos [e] (pos.advance p c l) :=
  fun steps => by rw [List.length_singleton, Nat.add_comm, CounterPos.emitted, h]

theorem emit_running (rep : Nat) (idx : Option Nat) (seg : Seg) (cnt : Nat) :
    (CounterPos.running ⟨rep, idx, seg, cnt⟩).emit = [.write seg.kind] := by
  cases seg <;> rfl

/-- A segment emits its units, and its last unit decides what comes next. -/
theorem emits_segment (rep : Nat) (idx : Option Nat) (seg : Seg) (n : Nat) :
    Emits p c l (.running ⟨rep, idx, seg, n + 1⟩) (List.replicate (n + 1) (.write seg.kind))
      (Counters.advance p c l ⟨rep, idx, seg, 1⟩) := by
  induction n with
  | zero => exact .step (emit_running ..)
  | succ n ih =>
    have hadvance : (CounterPos.running ⟨rep, idx, seg, n + 2⟩).advance p c l = .running ⟨rep, idx, seg, n + 1⟩ := by
      simp [CounterPos.advance, Counters.advance]
    exact .append (us := [_]) (hadvance ▸ .step (emit_running ..)) ih

/-- The same for a segment of a 16-bit count that is not 0. -/
theorem emits_segment_half (rep : Nat) (idx : Option Nat) (seg : Seg) {x : Half} (hx : x ≠ 0#16) :
    Emits p c l (.running ⟨rep, idx, seg, x.toNat⟩) (List.replicate x.toNat (.write seg.kind))
      (Counters.advance p c l ⟨rep, idx, seg, 1⟩) := by
  obtain ⟨n, hn⟩ := Nat.exists_eq_succ_of_ne_zero (BitVec.toNat_ne_iff_ne.mpr hx)
  rw [hn]
  exact emits_segment rep idx seg n

/-- R129: after the high segment comes the low one, or the next pulse where the low segment is empty. -/
theorem emits_after_high (rep : Nat) (idx : Option Nat) :
    Emits p c l (Counters.advance p c l ⟨rep, idx, .high, 1⟩)
      (List.replicate (pulseAt p c idx).2.toNat (.write .idl)) (nextPulse p c l rep idx) := by
  by_cases hlow : (pulseAt p c idx).2 = 0#16
  · have hskip : Counters.advance p c l ⟨rep, idx, .high, 1⟩ = nextPulse p c l rep idx := if_pos hlow
    rw [hskip, hlow]
    exact .nil _
  · have henter : Counters.advance p c l ⟨rep, idx, .high, 1⟩ =
        .running ⟨rep, idx, .low, (pulseAt p c idx).2.toNat⟩ := if_neg hlow
    rw [henter]
    exact emits_segment_half rep idx .low hlow

/-- R124, R129: a pulse that is not degenerate emits its units. -/
theorem emits_pulse (rep : Nat) (idx : Option Nat) (hne : emptyTiming (pulseAt p c idx) = false) :
    Emits p c l (.running (enterPulse p c rep idx)) (units (pulseAt p c idx)) (nextPulse p c l rep idx) := by
  by_cases hhigh : (pulseAt p c idx).1 = 0#16
  · have hlow : (pulseAt p c idx).2 ≠ 0#16 := fun hlow => by simp [emptyTiming, hhigh, hlow] at hne
    have henter : enterPulse p c rep idx = ⟨rep, idx, .low, (pulseAt p c idx).2.toNat⟩ := if_pos hhigh
    rw [henter, units, hhigh]
    exact emits_segment_half rep idx .low hlow
  · have henter : enterPulse p c rep idx = ⟨rep, idx, .high, (pulseAt p c idx).1.toNat⟩ := if_neg hhigh
    rw [henter]
    exact (emits_segment_half rep idx .high hhigh).append (emits_after_high rep idx)

/-- R121, R123: from bit `i - 1` on, or from the sync pulse where `i = 0`, the rest of a frame is emitted. -/
theorem emits_frame (rep i : Nat) (hsync : emptyTiming (syncTiming p) = false)
    (hbits : ∀ b ∈ codeBits c i, emptyTiming (bitTiming p b) = false) :
    Emits p c l (.running (enterPulse p c rep (firstIdx i))) (frame p c i) (nextPulse p c l rep none) := by
  induction i with
  | zero => exact emits_pulse rep none hsync
  | succ i ih =>
    obtain ⟨hbit, hrest⟩ := List.forall_mem_cons.mp hbits
    have hnext : nextPulse p c l rep (some i) = .running (enterPulse p c rep (firstIdx i)) := by cases i <;> rfl
    have hframe : frame p c (i + 1) = units (bitTiming p (c.getLsbD i)) ++ frame p c i := by
      simp [frame, codeBits]
    rw [hframe]
    exact (emits_pulse rep (some i) hbit).append (hnext ▸ ih hrest)

/-- R121: `n` frames are emitted, and the counters then stand at the TRAIL. -/
theorem emits_frames (n : Nat) (hsync : emptyTiming (syncTiming p) = false)
    (hbits : ∀ b ∈ codeBits c l, emptyTiming (bitTiming p b) = false) :
    Emits p c l (counterStart p c l n) (List.replicate n (frame p c l)).flatten .trail := by
  induction n with
  | zero => exact .nil _
  | succ r ih =>
    have hnext : nextPulse p c l (r + 1) none = counterStart p c l r := by cases r <;> rfl
    exact (emits_frame (r + 1) l hsync hbits).append (hnext ▸ ih)

theorem emits_trail : Emits p c l .trail [.write .trail, .disarm] .finished :=
  .append (us := [_]) (.step rfl) (.step rfl)

theorem emitted_finished (steps : Nat) : CounterPos.emitted p c l steps .finished = [] := by
  induction steps with
  | zero => rfl
  | succ steps ih => exact ih

/-- R129, R131: the counters emit the program and are then finished. -/
theorem emits_program {n : Nat} (hd : isDegenerate p c l n = false) :
    Emits p c l (counterStart p c l n) (program p c l n) .finished := by
  refine Emits.append ?_ emits_trail
  cases n with
  | zero => exact .nil _
  | succ r =>
    obtain ⟨hsync, hbits⟩ : emptyTiming (syncTiming p) = false ∧
        ∀ b ∈ codeBits c l, emptyTiming (bitTiming p b) = false := by simpa [isDegenerate] using hd
    exact emits_frames (r + 1) hsync hbits

end

/-- Settles O29: the program is emitted in its length of steps, and nothing after it. -/
theorem counterRealisationEmitsProgram : Obligations.CounterRealisationEmitsProgram := by
  intro p c l n hd k
  have hlength : sendConsumes p c l n + 1 = (program p c l n).length := (program_length p c l n).symm
  rw [hlength, emits_program hd, emitted_finished, List.append_nil]

end Sys2Proof.Machine
end

section
/-! PROOFS. The power family (42_power): the five commands, sleep and its resume, and the boot-and-wake cycle. -/

namespace Sys2Proof.Machine

/-! ### The commands (R160 to R164) -/

/-- R160. -/
theorem exec_lowpower (s : State) : exec .lowpower s = .next { s with pwr := lowPowerPwr } := rfl

/-- R161. -/
theorem exec_armwake (s : State) : exec .armwake s = .next { s with wakeIe := true } := rfl

/-- R164. -/
theorem exec_wake (s : State) : exec .wake s = .next { s with se := false } := rfl

/-- R162: SLEEP sets the latch that its halt instruction tests, so it always halts. -/
theorem exec_sleep (s : State) : exec .sleep s = .next { s with se := true, halted := true } := by
  simp [exec, execSleep, haltInsn]

/-- R163. -/
theorem exec_halt (s : State) : exec .halt s = .next { s with halted := s.halted || s.se } := rfl

/-- R163, with the latch set. -/
theorem exec_halt_of_latched {s : State} (hse : s.se = true) : exec .halt s = .next { s with halted := true } := by
  have hset : (s.halted || s.se) = true := by simp [hse]
  rw [exec_halt, hset]

/-- R163, with the latch clear. -/
theorem exec_halt_of_unlatched {s : State} (hse : s.se = false) : exec .halt s = .next s := by
  have hkept : (s.halted || s.se) = s.halted := by simp [hse]
  rw [exec_halt, hkept]

/-- R162, R163: with the latch set already, SLEEP and HALT do the same. -/
theorem exec_sleep_or_halt_of_latched {i : Instr} {s : State} (hi : i = .sleep ∨ i = .halt) (hse : s.se = true) :
    exec i s = .next { s with halted := true } := by
  obtain rfl | rfl := hi
  · rw [exec_sleep, ← hse]
  · exact exec_halt_of_latched hse

/-! ### PSTATE (R46) -/

theorem State.pstate_of_halted {s : State} (hh : s.halted = true) : s.pstate = 2 :=
  (powerStateRule.1 s).1 hh

theorem State.pstate_of_latched {s : State} (hh : s.halted = false) (hse : s.se = true) : s.pstate = 3 :=
  (powerStateRule.1 s).2.1 hh hse

/-- A running host with the latch clear and the timer off is POWERED_DOWN or ACTIVE. -/
theorem State.pstate_of_unlatched {s : State} (hh : s.halted = false) (hse : s.se = false) (harmed : s.tickArmed = false) :
    s.pstate = if s.pwr.lpcfg ∧ s.wakeIe then 1 else 0 := by
  simp [State.pstate, hh, hse, harmed]

/-- Settles O38: with LPCFG = 1, PSTATE is decided by WAKE_IE. -/
theorem lowPowerApplies : Obligations.LowPowerApplies := by
  refine fun s => ⟨_, exec_lowpower s, rfl, rfl, fun hh hse harmed => ?_⟩
  rw [State.pstate_of_unlatched (s := { s with pwr := lowPowerPwr }) hh hse harmed]
  simp [lowPowerPwr]

/-- Settles O39: with WAKE_IE = 1, PSTATE is decided by LPCFG. -/
theorem armWakeArms : Obligations.ArmWakeArms := by
  refine fun s => ⟨_, exec_armwake s, rfl, fun hh hse harmed hlp => ?_⟩
  rw [State.pstate_of_unlatched (s := { s with wakeIe := true }) hh hse harmed]
  simp [hlp]

/-- Settles O40: SLEEP does not look at WAKE_IE. -/
theorem sleepHalts : Obligations.SleepHalts :=
  fun s => ⟨_, exec_sleep s, rfl, State.pstate_of_halted rfl⟩

/-- Settles O41: the two cases of the halt instruction. -/
theorem haltHaltsWhileLatched : Obligations.HaltHaltsWhileLatched :=
  fun _ => ⟨exec_halt_of_latched, exec_halt_of_unlatched⟩

/-- Settles O42: WAKE leaves the latch clear. -/
theorem wakeClearsLatch : Obligations.WakeClearsLatch :=
  fun s => ⟨_, exec_wake s, rfl, fun hh harmed => State.pstate_of_unlatched hh rfl harmed⟩

/-- Settles O43: three commands overwrite one field with a constant; an edge resumes the host and keeps SE, so SLEEP and
HALT find the latch set again. -/
theorem powerCommandsIdempotent : Obligations.PowerCommandsIdempotent := by
  refine ⟨fun i s hi => ?_, fun i s hi hse hwake => ?_⟩
  · obtain rfl | rfl | rfl := hi
    · exact ⟨_, exec_lowpower s, exec_lowpower _⟩
    · exact ⟨_, exec_armwake s, exec_armwake _⟩
    · exact ⟨_, exec_wake s, exec_wake _⟩
  · have hresumed : (edgeEvent { s with halted := true }).halted = false := by simp [hwake]
    exact ⟨_, _, exec_sleep_or_halt_of_latched hi hse, rfl, hresumed, exec_sleep_or_halt_of_latched hi hse, rfl⟩

/-! ### Sleep and resume (R168) -/

/-- R62: no register but STATUS shows SE or the halt. -/
theorem readReg_of_power_change {r : Reg} (hr : r ≠ .status) (se halted : Bool) (s : State) :
    readReg r { s with se := se, halted := halted } = readReg r s := by
  cases r with
  | status => exact absurd rfl hr
  | _ => rfl

/-- Settles O44: the command and the edge write SE and HALTED alone. -/
theorem stateSurvivesSleep : Obligations.StateSurvivesSleep := by
  intro i s t hi hexec
  obtain ⟨hresume, hlatch⟩ : edgeEvent t = { s with se := t.se, halted := (edgeEvent t).halted } ∧
      (i = .halt → t.se = s.se) := by
    obtain rfl | rfl := hi
    · cases exec_next hexec; exact ⟨rfl, by simp⟩
    · cases exec_next hexec; exact ⟨rfl, fun _ => rfl⟩
  refine ⟨hresume, fun r hr => ?_, hlatch⟩
  rw [hresume]
  exact readReg_of_power_change hr _ _ s

/-! ### The boot-and-wake cycle (R165) -/

/-- The state with the power state, the host's operations to come and the schedule given: all that the cycle changes. -/
def State.withPower (s : State) (pwr : Pwr) (wakeIe se halted : Bool) (todo : List HostOp) (sched : List Agent) : State :=
  { s with pwr := pwr, wakeIe := wakeIe, se := se, halted := halted, env.todo := todo, env.sched := sched }

section
variable {s : State} {pwr : Pwr} {wakeIe se halted : Bool} {todo : List HostOp} {sched : List Agent}

theorem State.eq_withPower (hwake : s.wakeIe = wakeIe) (hse : s.se = se) (hh : s.halted = halted)
    (htodo : s.env.todo = todo) (hsched : s.env.sched = sched) :
    s = s.withPower s.pwr wakeIe se halted todo sched := by
  subst hwake hse hh htodo hsched
  rfl

/-- R67, R91: the step of a running host, scheduled with a command next while BUSY = 0. -/
theorem step_withPower_command {w : Word} {i : Instr} (hd : decode w = .cmd i) (hb : s.busy = false) :
    step (s.withPower pwr wakeIe se false (.cmd w :: todo) (.host :: sched)) =
      exec i (s.withPower pwr wakeIe se false todo sched) :=
  (stepRunsDecodedCommand (s.withPower pwr wakeIe se false (.cmd w :: todo) (.host :: sched)) (.window 0) w todo
    rfl rfl hb rfl rfl).2.1 i hd

/-- R209: the step of a scheduled EDGE with the wake source armed. -/
theorem step_withPower_edge : step (s.withPower pwr true se halted todo (.edge :: sched)) =
    .next (s.withPower pwr true se false todo sched) := by
  cases halted <;> rfl

end

/-- Settles O45: the five steps one after another, and PSTATE where each leaves the power state. -/
theorem powerStateCycle : Obligations.PowerStateCycle := by
  intro s hb harmed hh hse hwake hlp htodo hsched
  obtain ⟨-, -, -, hlowpower, harmwake, hsleep, -, hwakeup, -⟩ := specCommandWords
  have hstart : s.pstate = 0 := by simp [State.pstate_of_unlatched hh hse harmed, hlp]
  refine ⟨hstart,
    s.withPower lowPowerPwr false false false _ _,
    s.withPower lowPowerPwr true false false _ _,
    s.withPower lowPowerPwr true true true _ _,
    s.withPower lowPowerPwr true true false _ _,
    s.withPower lowPowerPwr true false false _ _,
    (congrArg step (State.eq_withPower hwake hse hh htodo hsched)).trans (step_withPower_command hlowpower hb),
    step_withPower_command harmwake hb,
    (step_withPower_command hsleep hb).trans (exec_sleep _),
    step_withPower_edge,
    step_withPower_command hwakeup hb, ?_, ?_, ?_, ?_, ?_⟩
  · exact State.pstate_of_unlatched rfl rfl harmed
  · exact State.pstate_of_unlatched rfl rfl harmed
  · exact State.pstate_of_halted rfl
  · exact State.pstate_of_latched rfl rfl
  · exact State.pstate_of_unlatched rfl rfl harmed

end Sys2Proof.Machine
end

section
/-! PROOFS. The exceptions family (60_exceptions): the TICK, EDGE and WDT events, and what ends a sleep. -/

namespace Sys2Proof.Machine

/-! ### The end of a sleep (R221) -/

/-- Settles O49: a halted host has no step, the engine and the tick keep HALTED, and an EDGE clears it only with WAKE_IE = 1. -/
theorem onlyEdgeOrResetEndsSleep : Obligations.OnlyEdgeOrResetEndsSleep := by
  intro s t hhalted h hresumed
  have hstopped : s.halted ≠ false := by simp [hhalted]
  cases step_next h with
  | read _ hrun | badRead _ hrun | badWrite _ hrun | staged _ hrun | badCommand _ hrun | command _ hrun =>
    exact absurd hrun hstopped
  | held | consume | disarm | tick => exact absurd (by simpa using hresumed) hstopped
  | edge ha => exact .inl ⟨ha, by simpa [hhalted] using hresumed⟩
  | reset ha hwdt => exact .inr ⟨ha, hwdt⟩

/-! ### The events as steps (R208, R209, R219) -/

theorem step_of_nextAgent {s : State} {a : Agent} (ha : s.nextAgent = a) : step s = agentStep a s.afterPick := by
  rw [step, ha]

theorem tickEvent_of_armed {s : State} (harmed : s.tickArmed = true) : tickEvent s = takeTick s := if_pos harmed

theorem edgeEvent_of_wakeIe {s : State} (hwake : s.wakeIe = true) : edgeEvent s = { s with halted := false } := by
  simp [edgeEvent, hwake]

theorem edgeEvent_of_not_wakeIe {s : State} (hwake : s.wakeIe = false) : edgeEvent s = s := by
  have hkept : (s.halted && !s.wakeIe) = s.halted := by simp [hwake]
  rw [edgeEvent, hkept]

theorem wdtEvent_of_enabled {s : State} (hwdt : s.pwr.wdtEn = true) : wdtEvent s = wdtReset s := if_pos hwdt

/-- A tick after the choice of the agent, with the values of the state before it. -/
theorem takeTick_afterPick (s : State) :
    takeTick s.afterPick = { s.afterPick with
      tickFlag := true
      ghost := { s.ghost with
        tickNo := s.ghost.tickNo + 1
        lost := s.ghost.lost + s.tickFlag.toNat } } := by
  simp [takeTick]

/-- Settles O33: the two cases of TICK_ARMED. -/
theorem tickEventStep : Obligations.TickEventStep := by
  refine fun s ha => ⟨fun harmed => ?_, fun harmed => ?_⟩
  · exact disabledAgentHolds.1 s (by simpa [ha, State.enabled] using harmed)
  · rw [step_of_nextAgent ha, agentStep, tickEvent_of_armed (by simpa using harmed), takeTick_afterPick]

/-- Settles O34: the two cases of WAKE_IE. -/
theorem edgeEventStep : Obligations.EdgeEventStep := by
  refine fun s ha => ⟨fun hwake => ?_, fun hwake => ?_⟩
  · rw [step_of_nextAgent ha, agentStep, edgeEvent_of_wakeIe (by simpa using hwake)]
  · rw [step_of_nextAgent ha, agentStep, edgeEvent_of_not_wakeIe (by simpa using hwake)]

/-- Settles O35: the draws of the reset are the free values of the state with the agent chosen. -/
theorem watchdogReset : Obligations.WatchdogReset := by
  refine fun s ha => ⟨fun hwdt => ?_, fun hwdt => ?_⟩
  · exact disabledAgentHolds.1 s (by simpa [ha, State.enabled] using hwdt)
  · have hstep : step s = .next (wdtReset s.afterPick) := by
      rw [step_of_nextAgent ha, agentStep, wdtEvent_of_enabled (by simpa using hwdt)]
    refine ⟨(wdtReset s.afterPick).active, (wdtReset s.afterPick).pwr, (wdtReset s.afterPick).env,
      rfl, afterPick_env_program s, afterPick_env_program s, afterPick_env_base s, afterPick_env_endLevel s, hstep.trans ?_⟩
    rw [← afterPick_ghost s]
    rfl

/-! ### Simultaneous events (R210) -/

/-- TICK writes TICK_FLAG and ghost state, EDGE writes HALTED, and neither reads what the other writes. -/
theorem tickEvent_edgeEvent (s : State) : tickEvent (edgeEvent s) = edgeEvent (tickEvent s) :=
  (apply_ite edgeEvent (s.tickArmed = true) (takeTick s) s).symm

/-- The state with the agents `agents` scheduled. -/
def State.scheduled (s : State) (agents : List Agent) : State := { s with env := { s.env with sched := agents } }

theorem tickEvent_scheduled (s : State) (agents : List Agent) :
    tickEvent (s.scheduled agents) = (tickEvent s).scheduled agents :=
  (apply_ite (State.scheduled · agents) (s.tickArmed = true) (takeTick s) s).symm

theorem edgeEvent_scheduled (s : State) (agents : List Agent) :
    edgeEvent (s.scheduled agents) = (edgeEvent s).scheduled agents := rfl

/-- R208: a run whose schedule begins with TICK. -/
theorem run_scheduled_tick (k : Nat) (s : State) (agents : List Agent) :
    Host.Core.run core (k + 1) (s.scheduled (.tick :: agents)) = Host.Core.run core k ((tickEvent s).scheduled agents) := by
  rw [← tickEvent_scheduled]
  exact run_succ k rfl

/-- R209: a run whose schedule begins with EDGE. -/
theorem run_scheduled_edge (k : Nat) (s : State) (agents : List Agent) :
    Host.Core.run core (k + 1) (s.scheduled (.edge :: agents)) = Host.Core.run core k ((edgeEvent s).scheduled agents) := by
  rw [← edgeEvent_scheduled]
  exact run_succ k rfl

/-- Settles O36: both runs are the two events on `s`, which commute. -/
theorem tickAndEdgeCommute : Obligations.TickAndEdgeCommute := by
  refine fun s rest => ⟨(edgeEvent (tickEvent s)).scheduled rest, ?_, ?_⟩
  · exact (run_scheduled_tick 1 s _).trans (run_scheduled_edge 0 _ rest)
  · rw [← tickEvent_edgeEvent]
    exact (run_scheduled_edge 1 s _).trans (run_scheduled_tick 0 _ rest)

end Sys2Proof.Machine
end

section
/-! PROOFS. The reset and hazards family (70_reset_and_hazards): the reset state, and the stale tick flag. -/

namespace Sys2Proof.Machine

/-! ### The reset state (R240) -/

/-- R26, R36 to R40: after reset nothing is recorded, in progress or pending. -/
theorem reset_premises : State.reset.NoFault ∧ State.reset.IdleEngine ∧ State.reset.CleanFlag :=
  ⟨rfl, ⟨rfl, rfl, rfl⟩, rfl⟩

/-- Settles O37: each field holds its reset value as written; STATUS after reset is a clause of its layout. -/
theorem resetState : Obligations.ResetState := by
  obtain ⟨-, hstatus, -⟩ := statusWordLayout
  exact ⟨rfl, rfl, rfl, rfl, rfl, rfl, rfl, rfl, rfl, rfl, rfl, rfl, rfl, rfl, rfl, rfl, rfl, rfl, rfl, rfl,
    hstatus, rfl, reset_premises⟩

/-! ### The stale tick flag (R248) -/

/-- R121: a program begins with a pin write, even with no frame: it makes at least the consume of TRAIL. -/
theorem program_eq_write_cons (p : Protocol) (c : Word) (l n : Nat) : ∃ k rest, program p c l n = .write k :: rest := by
  obtain ⟨hprogram, hlength⟩ := program_pinWrites p c l n
  have hpos : 0 < (pinWrites (program p c l n)).length := by simp [hlength, sendConsumes]
  obtain ⟨k, ks, hcons⟩ := List.exists_cons_of_length_pos hpos
  exact ⟨k, ks.map .write ++ [.disarm], by rw [hprogram, hcons]; rfl⟩

/-- Settles O57: the SEND keeps the flag and sets TICK_NO to 0, so the program's first pin write is consumed at tick 0. -/
theorem staleFlagFiresFirstUnit : Obligations.StaleFlagFiresFirstUnit := by
  intro s t len agents hexec hb ht hf
  obtain rfl := eq_startSend_of_busy hexec hb ht
  obtain ⟨k, rest, hprogram⟩ := program_eq_write_cons s.active s.code len.toNat s.repeatN.toNat
  rw [hprogram]
  refine ⟨k, _, rfl, step_engine_consumes rfl rfl rfl hf, ?_, rfl⟩
  exact congrArg (s.ghost.wave ++ [⟨s.ghost.sends + 1, 0, ·, k⟩]) (levelOf_congr rfl rfl k)

end Sys2Proof.Machine
end
